-- ==== Sys2Proof/Word.lean ====
section
/-! DEFINITION. The words of the block: the byte of the command port and of TK_DAT, and the 32-bit counters. -/

namespace Sys2Proof

/-- One byte of a frame (R176, R90). -/
abbrev Byte := BitVec 8

/-- A counter modulo 2^32 (R17, R65). -/
abbrev Count32 := BitVec 32

end Sys2Proof
end

