-- ==== Sys2Proof/Machine/Crc.lean ====
section
/-! DEFINITION. The check code of the command port and of TK_DAT (R190). -/

namespace Sys2Proof.Machine

/-- R190: one shift of the check register. -/
def crcShift (r : Byte) : Byte :=
  if r.msb then (r <<< 1) ^^^ 0x07#8 else r <<< 1

/-- R190: one covered byte: combined by exclusive-or, then eight shifts. -/
def crcByte (r b : Byte) : Byte :=
  crcShift (crcShift (crcShift (crcShift (crcShift (crcShift (crcShift (crcShift (r ^^^ b))))))))

/-- R190: the check byte of a list of bytes. -/
def crc8 (bytes : List Byte) : Byte :=
  bytes.foldl crcByte 0#8

end Sys2Proof.Machine
end

