-- ==== Sys2Proof/Config.lean ====
section
/-! DEFINITION. What the part fixes: capacities, limits and numeric constants. The spec leaves no value of this
block free, so no constant here is without a body. -/

namespace Sys2Proof.Config

/-- R8: the cue queue holds at most 32 cues. -/
def queueCapacity : Nat := 32

/-- R160: the Report Queue holds at most 24 records. -/
def reportCapacity : Nat := 24

/-- R165: a reply holds at most 128 bytes. -/
def replyCapacity : Nat := 128

/-- Angle units of a cycle (00, "Angle"). -/
def cycle : Nat := 3600

/-- Angle units of a half-cycle (00, "Samples and half-cycles"). -/
def halfCycle : Nat := 1800

/-- Angle units between two samples (R74). -/
def sampleStep : Nat := 5

/-- Angle units of running advance of a TK_SYN pull (R77, R196). -/
def pullWidth : Nat := 10

/-- Angle units of a slot (R76). -/
def slotWidth : Nat := 450

/-- Where a saturating count of a check record stops (R156). -/
def countMax : Nat := 4294967295

/-- R127: the magnitude above which a value is clipped, in 0.1 % of the nominal peak. -/
def clipLevel : Nat := 2000

/-- R127: the word of a value of 2000. -/
def wordMax : Nat := 524287

/-- R170: the default priorities of causes 0 to 13. -/
def defaultPriorities : List Nat := [3, 2, 2, 1, 1, 1, 1, 1, 1, 1, 0, 0, 0, 0]

/-- Digits of pi, with `piScale`: DESIGN CHOICE (log 12), the precision of the output word. -/
def piDigits : Nat := 31415926535897932384626433832795028841971693993751058209749445923

/-- The power of ten that `piDigits` is scaled by. -/
def piScale : Nat := 10 ^ 64

/-- Bits after the point in the sine series (log 12). -/
def sineBits : Nat := 160

/-- Bits after the point in an output value, before it is scaled to a word (log 12). -/
def valueBits : Nat := 100

/-- One unit (0.1 % of the nominal peak) of an output value. -/
def valueOne : Nat := 10000 * 2 ^ valueBits

end Sys2Proof.Config
end

