-- ==== Sys2Proof/Syntax.lean ====
section
/-! DEFINITION. The commands and events of the block: one constructor per row of spec/opcode_table.json, in the
table's order, with what each carries. -/

namespace Sys2Proof

/-- The two measurement channels: MODV and MODI (R145). -/
inductive Channel where
  | voltage | current
  deriving DecidableEq, Repr

/-- What TK_SYN shows at the instant of an own epoch (R79): high, low, or falling there by another station's pull. -/
inductive SynLine where
  | high | low | falling
  deriving DecidableEq, Repr

/-- The commands. A host command carries the payload bytes of its frame; `peerFrameReceived` the sixteen bytes
assembled; `decimatorResult` the bits of one decimation interval, oldest first; `syncFallNoted` the accumulator
(whole part and fraction num/den) at the fall. -/
inductive Instr where
  | status (payload : List Byte)
  | setup (payload : List Byte)
  | hset (payload : List Byte)
  | cue (payload : List Byte)
  | flush (payload : List Byte)
  | join (payload : List Byte)
  | leave (payload : List Byte)
  | arm (payload : List Byte)
  | disarm (payload : List Byte)
  | abort (payload : List Byte)
  | clearFault (payload : List Byte)
  | take (payload : List Byte)
  | clearLoss (payload : List Byte)
  | peers (payload : List Byte)
  | alertSet (payload : List Byte)
  | alertNext (payload : List Byte)
  | alertDone (payload : List Byte)
  | reset (payload : List Byte)
  | unknownCommand (code : Byte) (payload : List Byte)
  | badCheckFrame (code : Byte) (payload : List Byte) (check : Byte)
  | lenAbove64 (code len : Byte)
  | commandCut (sckEdges : Nat)
  | replyCut
  | replyComplete
  | commandReset
  | pinReset
  | powerOnReset
  | resetEnd (id : Fin 8) (ph1 ph0 csnHigh : Bool)
  | sample
  | peerFrameSent
  | readbackMismatch
  | peerFrameReceived (bytes : List Byte)
  | epoch (line : SynLine)
  | lock
  | founder
  | peerAbsent (station : Fin 8)
  | shareImbalance (station : Fin 8)
  | syncPullEnd
  | syncFallNoted (whole num den : Nat)
  | gateTimeout
  | tagMismatch (station : Fin 8)
  | tkGateChange (high : Bool)
  | gateOpening
  | gatePulseEnd
  | cueStart
  | cueCompletion
  | rampEnd
  | flickerBoundary
  | flickerChange
  | stopCompletion
  | pendingTransitionClose
  | decimatorResult (channel : Channel) (bits : List Bool)
  | clampEnd
  | overload
  | outOfTolerance
  | tkFltFall
  | tkFltRise
  | faultRecord
  | receiverAbandonsFrame
  | csnHighSeen
  deriving DecidableEq, Repr

end Sys2Proof
end

