-- ==== Sys2Proof/Machine/State.lean ====
section
/-! DEFINITION. The state of one station, block by block, as the spec names it; the machine's fault and refusal
types; the state after reset. Plain data throughout. -/

namespace Sys2Proof.Machine

/-! ### Names and small records -/

/-- R47: the station state. -/
inductive StationState where
  | config | enroll | armed | run | fault | recover
  deriving DecidableEq, Repr

/-- R80: the sync state. -/
inductive SyncState where
  | seeking | locked
  deriving DecidableEq, Repr

/-- R2: the eight kinds of cue. -/
inductive CueKind where
  | level | ramp | gap | phase | freq | flicker | harmonic | endRun
  deriving DecidableEq, Repr

/-- R2: how a cue waits: for the group gate, or for the cue before it. -/
inductive CueGate where
  | group | localCue
  deriving DecidableEq, Repr

/-- R2: the angle a start angle is read against. -/
inductive AngleRef where
  | own | system
  deriving DecidableEq, Repr

/-- R2: how a GAP interrupts the supply. -/
inductive SwitchMode where
  | highZ | lowZ
  deriving DecidableEq, Repr

/-- The name of a harmonic set, or NONE (R2 index 12, R125). -/
inductive SetName where
  | none | set (n : Nat)
  deriving DecidableEq, Repr

/-- R187: the phase assignment. -/
inductive PhaseAssign where
  | l1 | l2 | l3 | any
  deriving DecidableEq, Repr

/-- R108: the ten fault causes; NONE is the absence of one. -/
inductive FaultCause where
  | hostAbort | gateTimeout | tagMismatch | peerLost | syncLost | slotClash
  | overload | outOfTolerance | measLost | groupFault
  deriving DecidableEq, Repr

/-- R170: the fourteen alert causes. -/
inductive AlertCause where
  | fault | tolMiss | reportLoss | peerChange | shareImbalance | setupMismatch | syncChange
  | measChange | queueLow | queueDry | cueDone | runChange | reportReady | frameCut
  deriving DecidableEq, Repr

/-- The result codes of a reply (10, "Result Codes"; R191). -/
inductive Result where
  | ok | state | full | badField | empty | inUse | mismatch | groupBusy | lineFault | notLocked
  | headLocal | badCheck | badLength | unknown | notActive | missingField
  deriving DecidableEq, Repr

/-- R31: the outcome of a cue. -/
inductive CueOutcome where
  | done | cut
  deriving DecidableEq, Repr

/-- R161: the reason of a RUN_END. -/
inductive EndReason where
  | endCue | fault
  deriving DecidableEq, Repr

/-- R2: a cue record, each field present or absent. The tag and the kind are always present (R3). -/
structure Cue where
  tag : Nat
  kind : CueKind
  gate : CueGate
  startAngle : Option Nat
  angleRef : Option AngleRef
  ampA : Option Nat
  ampA2 : Option Nat
  duration : Option Nat
  rampLength : Option Nat
  phaseDelta : Option Int
  frequency : Option Nat
  rate : Option Nat
  harmonicSet : Option SetName
  switchMode : Option SwitchMode
  check : Bool
  tolerance : Option Nat
  deriving DecidableEq, Repr

/-- R21: the phase of the active cue. -/
inductive CuePhase where
  | pendingAngle | running
  deriving DecidableEq, Repr

/-- R21: the active cue with its execution state. -/
structure ActiveCue where
  cue : Cue
  phase : CuePhase
  /-- the activation sample is still to come (R20) -/
  awaiting : Bool
  activationCycle : Count32
  startCycle : Option Count32
  startAngle : Option Nat
  advance : Nat
  /-- E0 of a RAMP (R36) -/
  rampFrom : Nat
  rampDone : Bool
  toggles : Nat
  stopRequested : Bool
  deriving DecidableEq, Repr

/-- R156: the check record of a span. -/
structure CheckRecord where
  checked : Nat := 0
  missed : Nat := 0
  limited : Nat := 0
  worst : Option Int := none
  minV : Option Nat := none
  maxV : Option Nat := none
  deriving DecidableEq, Repr

/-- R161: the fields of a CUE_END record. -/
structure CueEnd where
  tag : Nat
  kind : CueKind
  outcome : CueOutcome
  startCycle : Count32
  startAngle : Option Nat
  halfCycles : Nat
  checked : Nat
  missed : Nat
  limited : Nat
  clipped : Nat
  worst : Option Int
  minV : Option Nat
  maxV : Option Nat
  deriving DecidableEq, Repr

/-- R119: the fields of a FAULT record; `origin` none is 255 and `cutTag` none is NONE. -/
structure FaultReport where
  cause : FaultCause
  origin : Option (Fin 8)
  onset : Count32
  cutTag : Option Nat
  discarded : Nat
  secondary : Nat
  deriving DecidableEq, Repr

/-- R161: the records of the Report Queue; a PEER record is one of its four events. -/
inductive Record where
  | runStart (roster : List (Fin 8)) (firstTag : Nat)
  | cueEnd (r : CueEnd)
  | runEnd (reason : EndReason) (runCycles cuesEnded : Count32)
  | fault (r : FaultReport)
  | peerArrived (station : Fin 8)
  | peerAbsent (station : Fin 8)
  | peerMismatch (station : Fin 8) (groupSize nominal : Nat)
  | peerShare (station : Fin 8) (ownI peerI : Nat)
  | loss (count : Nat)
  deriving DecidableEq, Repr

/-- R91: the twelve fields of a peer frame, and the bits of byte 0 that are sent as 0 and not judged (R195), which PEERS
shows as filed (R193). -/
structure PeerFrame where
  number : Fin 8
  phase : PhaseAssign
  state : StationState
  lock : Bool
  limiting : Bool
  gateTag : Option Nat
  activeTag : Option Nat
  cause : Option FaultCause
  vRms : Option Nat
  iRms : Option Nat
  groupSize : Nat
  nominal : Nat
  spare : BitVec 3 := 0
  deriving DecidableEq, Repr

/-- R98: one entry of the peer table; `shared` holds the two currents compared at the epoch that filled the share
run count (R103). -/
structure PeerEntry where
  present : Bool := false
  missed : Nat := 0
  heard : Bool := false
  frame : Option PeerFrame := none
  member : Bool := false
  mismatch : Bool := false
  shareRun : Nat := 0
  shareReported : Bool := false
  shared : Option (Nat × Nat) := none
  deriving DecidableEq, Repr

/-- R71: an angle with its whole part and its fraction num/den (log 9). -/
structure Angle where
  whole : Nat := 0
  num : Nat := 0
  den : Nat := 1
  deriving DecidableEq, Repr

/-- R132: one harmonic entry: order, amplitude in 0.01 %, phase. -/
structure HarmonicEntry where
  order : Nat
  amplitude : Nat
  phase : Nat
  deriving DecidableEq, Repr

/-- R132: a harmonic set with its RMS factor in thousandths. -/
structure HarmonicSet where
  entries : List HarmonicEntry := []
  factor : Nat := 1000
  deriving DecidableEq, Repr

/-- R125: the levels of the running FLICKER cue and whether a change is armed. -/
structure FlickerLevels where
  a : Nat
  a2 : Nat
  armed : Bool
  deriving DecidableEq, Repr

/-- The two switches (R138). -/
inductive SwitchName where
  | sw0 | sw1
  deriving DecidableEq, Repr

/-- R20, R26: whether the end of a RUNNING cue of duration 0 and the activation of its successor fall at the very instant of
the coming sample: not said, or announced (log 1); `made`: a completion of the last sample was made in the row of another
command, so that its own row finds it made (log 36). -/
inductive Handover where
  | none | announced | made
  deriving DecidableEq, Repr

/-- R20, R26: the last sample was taken in the row of an activation of its very instant, and its own row is still to come:
no such sample; a SAMPLE's; an EPOCH's (log 1). -/
inductive TakenSample where
  | none | sample | epoch
  deriving DecidableEq, Repr

/-- R138: a pending transition: the switch to close and the samples remaining, 0 when the closing is due. -/
structure Transition where
  switch : SwitchName
  remaining : Nat
  deriving DecidableEq, Repr

/-- R53: how the station drives TK_GATE. -/
inductive GateDrive where
  | notDriven | released | heldLow
  deriving DecidableEq, Repr

/-- R95: the receiver of TK_DAT; `muted` while an own frame is sent. -/
inductive Receiver where
  | stopped | listening | waitIdle | muted
  deriving DecidableEq, Repr

/-- R180: a reply under shift; `carried` is the number of records a TAKE reply carries, `isStatus` marks a STATUS
reply (R182). -/
structure Reply where
  result : Result
  bytes : List Byte
  carried : Nat := 0
  isStatus : Bool := false
  deriving DecidableEq, Repr

/-- R176: where the frame of the command port stands: CSN high; the command coming in; the command ended, with filler,
reply and the bytes after it going out. -/
inductive FrameStage where
  | closed | command | answering
  deriving DecidableEq, Repr

/-! ### The blocks -/

/-- R186: the thirteen setup values with their defaults. -/
structure Setup where
  nominal : Nat := 5000
  groupSize : Nat := 1
  phaseOffset : Nat := 0
  gateLimit : Nat := 50
  tolerance : Nat := 20
  missLimit : Nat := 0
  checkSkip : Nat := 1
  currentLimit : Nat := 150
  limitHold : Nat := 20
  shareLimit : Nat := 0
  watermark : Nat := 4
  ratio : Nat := 128
  breakGap : Nat := 2
  deriving DecidableEq, Repr

/-- R187: the straps as sampled at the last reset. -/
structure Straps where
  number : Fin 8 := 0
  phase : PhaseAssign := .l1
  deriving DecidableEq, Repr

/-- The levels of TK_GATE and TK_FLT as the other stations leave them, true for high (log 7). -/
structure Lines where
  gateHigh : Bool := true
  fltHigh : Bool := true
  deriving DecidableEq, Repr

/-- The Command Port (R176 to R189). -/
structure Port where
  deaf : Bool := false
  resetTaken : Bool := false
  stage : FrameStage := .closed
  reply : Option Reply := none
  summary : Byte := 0
  frameCuts : Nat := 0
  powerOn : Bool := false
  pinFlag : Bool := false
  commandFlag : Bool := false
  deriving DecidableEq, Repr

/-- The Cue Engine (R8, R17, R21, R43). -/
structure CueEngine where
  queue : List Cue := []
  active : Option ActiveCue := none
  accepted : Count32 := 0
  started : Count32 := 0
  ended : Count32 := 0
  discarded : Count32 := 0
  deferredGap : Option SwitchMode := none
  handover : Handover := .none
  deriving DecidableEq, Repr

/-- The Group Controller (R53, R58, R60, R61, R65, R67). -/
structure Group where
  drive : GateDrive := .notDriven
  pulse : Bool := false
  timer : Nat := 0
  timerOn : Bool := false
  /-- the gate timer has reached the gate limit and GATE_TIMEOUT is still to be passed (R60) -/
  timeoutDue : Bool := false
  tagCounts : List Nat := [0, 0, 0, 0, 0, 0, 0, 0]
  /-- the stations whose tag mismatch count has reached 2 and whose TAG_MISMATCH is still to be passed (R61) -/
  tagDue : BitVec 8 := 0
  runCycle : Count32 := 0
  endedAtOpen : Count32 := 0
  deriving DecidableEq, Repr

/-- The Phase Lock Unit (R71 to R88). -/
structure PhaseLock where
  acc : Angle := {}
  /-- advance since the previous sample -/
  adv : Nat := 0
  /-- the last sample is the one of an own epoch (R73), which the EPOCH takes (log 11) -/
  atEpoch : Bool := false
  /-- the system angle at the last sample -/
  sysAngle : Nat := 0
  /-- the arc of the last sample (R75) -/
  arc : Nat := 0
  runFreq : Nat := 5000
  sync : SyncState := .seeking
  falls : List Angle := []
  lag : Option Nat := none
  lockCount : Nat := 0
  silentCount : Nat := 0
  pendingFreq : Option Nat := none
  pull : Bool := false
  /-- running advance since the pull began, up to 10 units (R77) -/
  pullAdv : Nat := 0
  taken : TakenSample := .none
  deriving DecidableEq, Repr

/-- The Peer Link Unit (R89 to R106). -/
structure PeerLink where
  table : List PeerEntry := [{}, {}, {}, {}, {}, {}, {}, {}]
  barred : Bool := false
  tx : Option PeerFrame := none
  rx : Receiver := .stopped
  deriving DecidableEq, Repr

/-- The Fault Unit (R107). -/
structure FaultUnit where
  cause : Option FaultCause := none
  fltLow : Bool := false
  stopComplete : Bool := true
  onset : Count32 := 0
  epochs : Nat := 0
  secondary : Nat := 0
  cutTag : Option Nat := none
  discarded : Nat := 0
  origin : Option (Fin 8) := none
  offered : Bool := false
  deriving DecidableEq, Repr

/-- The Synthesizer (R125), the word the DAC holds (R128) and what the present sample has left due. -/
structure Synth where
  envelope : Nat := 0
  flicker : Option FlickerLevels := none
  stepOffset : Nat := 0
  sets : List HarmonicSet := [{}, {}, {}, {}, {}, {}, {}, {}]
  activeSet : SetName := .none
  /-- the clamp level in output-value units, when active -/
  clamp : Option Nat := none
  /-- a clamp was asked for behind a sample whose word is still to be sent: its level is that word's (R135) -/
  clampAsked : Bool := false
  stop : Bool := false
  clipped : Nat := 0
  /-- magnitude of the last value sent as a word, in output-value units -/
  lastValue : Nat := 0
  word : BitVec 20 := 0
  wordDue : Bool := false
  runStart : Bool := false
  flickerDue : Bool := false
  stopDue : Bool := false
  clampEndDue : Bool := false
  deriving DecidableEq, Repr

/-- The Switch Unit (R138); true is closed. -/
structure Switches where
  sw0 : Bool := false
  sw1 : Bool := false
  pending : Option Transition := none
  deriving DecidableEq, Repr

/-- One measurement channel: settle count, the input bits in the comb's window (newest first) and the half-cycle's
accumulators (R145, R148, R149). -/
structure ChannelState where
  settle : Nat := 0
  window : List Bool := []
  produced : Nat := 0
  discarded : Nat := 0
  settled : Nat := 0
  sumSq : Nat := 0
  deriving DecidableEq, Repr

/-- The marks of the half-cycle in progress (R150), whether it lies wholly within the span so far, and whether it
began at or after the end of the span's ramp (R154). -/
structure HalfCycle where
  irregular : Bool := false
  limited : Bool := false
  switchChange : Bool := false
  freqChange : Bool := false
  whole : Bool := false
  rampOver : Bool := false
  deriving DecidableEq, Repr

/-- R154: the open span. -/
structure Span where
  kind : CueKind
  check : Bool
  tolerance : Option Nat
  rampEnded : Bool
  wholeCount : Nat
  record : CheckRecord
  deriving DecidableEq, Repr

/-- The Measurement Unit (R145 to R159). -/
structure Meas where
  running : Bool := false
  v : ChannelState := {}
  i : ChannelState := {}
  hc : HalfCycle := {}
  /-- the half-cycle in progress began at the present sample -/
  hcBegan : Bool := false
  /-- a switch change at a stop's instant, reported against the next sample (R144) -/
  switchMark : Bool := false
  heldV : Option Nat := none
  heldI : Option Nat := none
  heldLimiting : Bool := false
  lost : Bool := false
  overloadRun : Nat := 0
  span : Option Span := none
  overloadDue : Bool := false
  toleranceDue : Bool := false
  /-- MEAS_LOST has been reached at the close of a half-cycle and is still to be passed (R158) -/
  lossDue : Bool := false
  deriving DecidableEq, Repr

/-- The Report Queue (R160). -/
structure ReportQueue where
  records : List Record := []
  lost : Bool := false
  lostCount : Nat := 0
  deriving DecidableEq, Repr

/-- R169: an entry of the service stack. -/
structure StackEntry where
  cause : AlertCause
  priority : Nat
  deriving DecidableEq, Repr

/-- The Alert Unit (R169); the stack's top is its first element. -/
structure AlertUnit where
  pending : BitVec 14 := 0
  enable : BitVec 14 := 0
  prio : List Nat := Config.defaultPriorities
  threshold : Nat := 0
  stack : List StackEntry := []
  deriving DecidableEq, Repr

/-! ### The station -/

/-- The whole state of one station, with the queue of steps that wait (log 1). -/
structure State where
  pending : List Instr := []
  state : StationState := .config
  inReset : Bool := false
  setup : Setup := {}
  straps : Straps := {}
  lines : Lines := {}
  port : Port := {}
  cue : CueEngine := {}
  group : Group := {}
  pll : PhaseLock := {}
  peer : PeerLink := {}
  fault : FaultUnit := {}
  synth : Synth := {}
  sw : Switches := {}
  meas : Meas := {}
  report : ReportQueue := {}
  alert : AlertUnit := {}
  deriving DecidableEq, Repr

/-- No step of this block stops the machine: every fault of the spec is state of the Fault Unit. The type has no
constructor, which is safe. -/
inductive Fault where
  deriving DecidableEq, Repr

/-- Why a step has no meaning. -/
inductive Refusal where
  /-- raised by a Dispatch arm that has no meaning yet; a refusal is safe -/
  | notModelled (mnemonic : String)
  deriving DecidableEq, Repr

/-- The station right after a power-on reset has ended: every block at the values of R189's table, the POWER_ON
flag set (R185); straps and pins as log 6 and log 7 name them. -/
def State.reset : State :=
  { port := { powerOn := true } }

end Sys2Proof.Machine
end

