-- ==== Sys2Proof/Machine/Layout.lean ====
section
/-! DEFINITION. Codes and byte layouts: enumerations (R191), numbers most significant byte first, records (R194),
the peer frame both ways (R195), replies (R180). -/

namespace Sys2Proof.Machine

/-! ### Numbers -/

def u8 (n : Nat) : List Byte := [BitVec.ofNat 8 n]

def u16 (n : Nat) : List Byte := [BitVec.ofNat 8 (n / 256), BitVec.ofNat 8 n]

def u32 (n : Nat) : List Byte :=
  [BitVec.ofNat 8 (n / 16777216), BitVec.ofNat 8 (n / 65536), BitVec.ofNat 8 (n / 256), BitVec.ofNat 8 n]

/-- A signed number in two's complement, two bytes. -/
def s16 (i : Int) : List Byte := u16 ((i % 65536).toNat)

/-- The number that bytes spell, most significant first. -/
def be (bytes : List Byte) : Nat := bytes.foldl (fun n b => n * 256 + b.toNat) 0

/-- A two-byte number read as signed. -/
def signed16 (n : Nat) : Int := if n < 32768 then n else (n : Int) - 65536

def boolByte (b : Bool) : Byte := if b then 1#8 else 0#8

/-! ### Codes (R191) -/

def StationState.code : StationState → Nat
  | .config => 0 | .enroll => 1 | .armed => 2 | .run => 3 | .fault => 4 | .recover => 5

/-- R195: a state code of 0 or above 5 is dropped in a peer frame. -/
def StationState.ofFrameCode : Nat → Option StationState
  | 1 => some .enroll | 2 => some .armed | 3 => some .run | 4 => some .fault | 5 => some .recover | _ => none

def SyncState.code : SyncState → Nat
  | .seeking => 0 | .locked => 1

def CueKind.code : CueKind → Nat
  | .level => 0 | .ramp => 1 | .gap => 2 | .phase => 3 | .freq => 4 | .flicker => 5 | .harmonic => 6 | .endRun => 7

def CueKind.ofCode : Nat → Option CueKind
  | 0 => some .level | 1 => some .ramp | 2 => some .gap | 3 => some .phase
  | 4 => some .freq | 5 => some .flicker | 6 => some .harmonic | 7 => some .endRun | _ => none

def CueGate.code : CueGate → Nat
  | .group => 0 | .localCue => 1

def AngleRef.code : AngleRef → Nat
  | .own => 0 | .system => 1

def SwitchMode.code : SwitchMode → Nat
  | .highZ => 0 | .lowZ => 1

def SetName.code : SetName → Nat
  | .none => 255 | .set n => n

def PhaseAssign.code : PhaseAssign → Nat
  | .l1 => 0 | .l2 => 1 | .l3 => 2 | .any => 3

def PhaseAssign.ofCode : Nat → PhaseAssign
  | 0 => .l1 | 1 => .l2 | 2 => .l3 | _ => .any

def FaultCause.code : FaultCause → Nat
  | .hostAbort => 0 | .gateTimeout => 1 | .tagMismatch => 2 | .peerLost => 3 | .syncLost => 4
  | .slotClash => 5 | .overload => 6 | .outOfTolerance => 7 | .measLost => 8 | .groupFault => 9

/-- The fault cause of a code, with 0xFF for NONE; the outer `none` is an unknown code. -/
def causeOfCode : Nat → Option (Option FaultCause)
  | 0 => some (some .hostAbort) | 1 => some (some .gateTimeout) | 2 => some (some .tagMismatch)
  | 3 => some (some .peerLost) | 4 => some (some .syncLost) | 5 => some (some .slotClash)
  | 6 => some (some .overload) | 7 => some (some .outOfTolerance) | 8 => some (some .measLost)
  | 9 => some (some .groupFault) | 255 => some none | _ => none

def causeCode : Option FaultCause → Nat
  | some c => c.code | none => 255

def CueOutcome.code : CueOutcome → Nat
  | .done => 0 | .cut => 1

def EndReason.code : EndReason → Nat
  | .endCue => 0 | .fault => 1

def AlertCause.num : AlertCause → Nat
  | .fault => 0 | .tolMiss => 1 | .reportLoss => 2 | .peerChange => 3 | .shareImbalance => 4
  | .setupMismatch => 5 | .syncChange => 6 | .measChange => 7 | .queueLow => 8 | .queueDry => 9
  | .cueDone => 10 | .runChange => 11 | .reportReady => 12 | .frameCut => 13

/-- R170: the fourteen causes in the order of their numbers. -/
def allCauses : List AlertCause :=
  [.fault, .tolMiss, .reportLoss, .peerChange, .shareImbalance, .setupMismatch, .syncChange,
   .measChange, .queueLow, .queueDry, .cueDone, .runChange, .reportReady, .frameCut]

def Result.code : Result → Byte
  | .ok => 0x00#8 | .state => 0x01#8 | .full => 0x02#8 | .badField => 0x03#8 | .empty => 0x04#8
  | .inUse => 0x05#8 | .mismatch => 0x06#8 | .groupBusy => 0x07#8 | .lineFault => 0x08#8
  | .notLocked => 0x09#8 | .headLocal => 0x0A#8 | .badCheck => 0x0B#8 | .badLength => 0x0C#8
  | .unknown => 0x0D#8 | .notActive => 0x0E#8 | .missingField => 0x0F#8

/-- A tag or an RMS value, 0xFFFF when NONE or absent. -/
def optCode (o : Option Nat) : Nat := o.getD 65535

/-! ### Replies (R180) -/

/-- The bytes of a reply as shifted out: result code, reply length, reply bytes, reply CRC. -/
def Reply.frame (r : Reply) : List Byte :=
  let covered := r.result.code :: BitVec.ofNat 8 r.bytes.length :: r.bytes
  covered ++ [crc8 covered]

/-! ### Records (R194) -/

def optBytes (enc : Nat → List Byte) : Option Nat → List Byte
  | some n => enc n | none => []

/-- R194: the fields of a CUE_END behind its header. -/
def CueEnd.body (r : CueEnd) : List Byte :=
  u16 r.tag ++ u8 r.kind.code ++ u8 r.outcome.code
  ++ u8 (r.startAngle.isSome.toNat + 2 * r.worst.isSome.toNat + 4 * r.minV.isSome.toNat)
  ++ u32 r.startCycle.toNat ++ optBytes u16 r.startAngle ++ u32 r.halfCycles
  ++ u32 r.checked ++ u32 r.missed ++ u32 r.limited ++ u32 r.clipped
  ++ (match r.worst with | some w => s16 w | none => [])
  ++ optBytes u16 r.minV ++ optBytes u16 r.maxV

def originCode : Option (Fin 8) → Nat
  | some n => n.val | none => 255

/-- R194: the fields of a record behind its header. -/
def Record.body : Record → List Byte
  | .runStart roster tag => u8 roster.length ++ roster.map (fun n => BitVec.ofNat 8 n.val) ++ u16 tag
  | .cueEnd r => r.body
  | .runEnd reason cycles cues => u8 reason.code ++ u32 cycles.toNat ++ u32 cues.toNat
  | .fault r => u8 r.cause.code ++ u8 (originCode r.origin) ++ u32 r.onset.toNat ++ u16 (optCode r.cutTag)
      ++ u8 r.discarded ++ u8 r.secondary
  | .peerArrived n => u8 0 ++ u8 n.val
  | .peerAbsent n => u8 1 ++ u8 n.val
  | .peerMismatch n g f => u8 2 ++ u8 n.val ++ u8 g ++ u16 f
  | .peerShare n own peer => u8 3 ++ u8 n.val ++ u16 own ++ u16 peer
  | .loss n => u8 n

def Record.kindCode : Record → Nat
  | .runStart _ _ => 1 | .cueEnd _ => 2 | .runEnd _ _ _ => 3 | .fault _ => 4
  | .peerArrived _ => 5 | .peerAbsent _ => 5 | .peerMismatch _ _ _ => 5 | .peerShare _ _ _ => 5
  | .loss _ => 6

/-- R194: a record with its kind code and length. -/
def Record.bytes (r : Record) : List Byte :=
  u8 r.kindCode ++ u8 r.body.length ++ r.body

/-- R165: the records a TAKE reply carries: the oldest, as many as the request count and the room allow. -/
def fitRecords : Nat → Nat → List Record → List Record
  | 0, _, _ => []
  | _ + 1, _, [] => []
  | n + 1, room, r :: rs =>
    if r.bytes.length ≤ room then r :: fitRecords n (room - r.bytes.length) rs else []

/-! ### The peer frame (R195) -/

/-- R195: bytes 0 to 14 of a frame. -/
def PeerFrame.body (f : PeerFrame) : List Byte :=
  u8 (64 * f.phase.code + 8 * f.spare.toNat + f.number.val) ++ u8 f.state.code ++ u8 (f.lock.toNat + 2 * f.limiting.toNat)
  ++ u16 (optCode f.gateTag) ++ u16 (optCode f.activeTag) ++ u8 (causeCode f.cause)
  ++ u16 (optCode f.vRms) ++ u16 (optCode f.iRms) ++ u8 f.groupSize ++ u16 f.nominal

/-- R195: the sixteen bytes of a frame. -/
def PeerFrame.bytes (f : PeerFrame) : List Byte := f.body ++ [crc8 f.body]

def byteAt (bytes : List Byte) (i : Nat) : Nat := (bytes.getD i 0#8).toNat

def wordAt (bytes : List Byte) (i : Nat) : Nat := byteAt bytes i * 256 + byteAt bytes (i + 1)

/-- A tag, with 0xFFFF for NONE. -/
def tagOf (n : Nat) : Option Nat := if n = 65535 then none else some n

/-- R96, R195: an RMS value: absent, in range, or (outer none) out of range. -/
def rmsOf (max n : Nat) : Option (Option Nat) :=
  if n = 65535 then some none else if n ≤ max then some (some n) else none

/-- R96: the frame that sixteen bytes spell, or none where the receiver drops them for their check or a field. -/
def readFrame (bytes : List Byte) : Option PeerFrame :=
  if bytes.length ≠ 16 then none
  else if crc8 (bytes.take 15) ≠ bytes.getD 15 0#8 then none
  else if byteAt bytes 2 % 2 = 0 then none
  else if byteAt bytes 12 = 0 ∨ 8 < byteAt bytes 12 then none
  else if wordAt bytes 13 < 4000 ∨ 7000 < wordAt bytes 13 then none
  else
    match StationState.ofFrameCode (byteAt bytes 1), causeOfCode (byteAt bytes 7),
      rmsOf 2000 (wordAt bytes 8), rmsOf 4000 (wordAt bytes 10) with
    | some st, some cause, some v, some i =>
      some {
        number := Fin.ofNat 8 (byteAt bytes 0 % 8)
        phase := PhaseAssign.ofCode (byteAt bytes 0 / 64)
        state := st
        lock := true
        limiting := decide (byteAt bytes 2 / 2 % 2 = 1)
        gateTag := tagOf (wordAt bytes 3)
        activeTag := tagOf (wordAt bytes 5)
        cause := cause
        vRms := v
        iRms := i
        groupSize := byteAt bytes 12
        nominal := wordAt bytes 13
        spare := BitVec.ofNat 3 (byteAt bytes 0 / 8) }
    | _, _, _, _ => none

end Sys2Proof.Machine
end

