-- ==== Sys2Proof/Machine/Flags.lean ====
section
/-! DEFINITION. The flags: alert causes and their qualification (R169 to R173), the status summary byte (R192) and
the STATUS reply's bytes (R193). -/

namespace Sys2Proof.Machine

/-- R169: a cause's event sets its pending flag; a flag already set stays set. -/
def raise (c : AlertCause) (s : State) : State :=
  { s with alert := { s.alert with pending := s.alert.pending ||| BitVec.twoPow 14 c.num } }

/-- `raise` when a condition holds. -/
def raiseIf (b : Bool) (c : AlertCause) (s : State) : State := if b then raise c s else s

/-- R169: whether a cause is pending. -/
def AlertUnit.isPending (a : AlertUnit) (c : AlertCause) : Bool := a.pending.getLsbD c.num

/-- R169: the priority of a cause. -/
def AlertUnit.priority (a : AlertUnit) (c : AlertCause) : Nat := a.prio.getD c.num 0

/-- R171: the priority of a cause is above the top of the stack, or the stack is empty. -/
def AlertUnit.aboveTop (a : AlertUnit) (c : AlertCause) : Bool :=
  match a.stack with
  | [] => true
  | e :: _ => decide (e.priority < a.priority c)

/-- R171: a cause qualifies. -/
def AlertUnit.qualifies (a : AlertUnit) (c : AlertCause) : Bool :=
  a.isPending c && a.enable.getLsbD c.num && decide (a.threshold ≤ a.priority c) && a.aboveTop c

/-- R173: among the causes that qualify, the highest priority and then the lowest number. -/
def AlertUnit.bestOf (a : AlertUnit) : List AlertCause → Option AlertCause
  | [] => none
  | c :: cs =>
    if a.qualifies c then
      match a.bestOf cs with
      | some d => if a.priority c < a.priority d then some d else some c
      | none => some c
    else a.bestOf cs

/-- R173: the cause ALERT_NEXT selects. -/
def AlertUnit.best (a : AlertUnit) : Option AlertCause := a.bestOf allCauses

/-- R171: ALERTN is asserted while at least one cause qualifies. -/
def AlertUnit.alertn (a : AlertUnit) : Bool := allCauses.any a.qualifies

/-- R189: ALERTN as the pin shows it: released while a reset lasts. -/
def State.alertnAsserted (s : State) : Bool := !s.inReset && s.alert.alertn

/-- R192: the cue queue depth is at or below the watermark. -/
def queueLow (s : State) : Bool := decide (s.cue.queue.length ≤ s.setup.watermark)

/-- R192: the status summary byte of the station as it stands. -/
def summaryByte (s : State) : Byte :=
  BitVec.ofNat 8 (32 * s.state.code + 16 * s.alert.alertn.toNat + 8 * (!s.report.records.isEmpty).toNat
    + 4 * s.report.lost.toNat + 2 * (decide (s.pll.sync = .locked)).toNat + (queueLow s).toNat)

/-- R21: the tag of the active cue. -/
def activeTag (s : State) : Option Nat := s.cue.active.map (fun a => a.cue.tag)

/-- R184: the fault cause as STATUS and the peer frame show it: in FAULT and RECOVER alone. -/
def shownCause (s : State) : Option FaultCause :=
  if s.state = .fault ∨ s.state = .recover then s.fault.cause else none

/-- R185: the reset-cause flags as a byte. -/
def resetFlags (p : Port) : Nat := p.powerOn.toNat + 2 * p.pinFlag.toNat + 4 * p.commandFlag.toNat

/-- R184, R193: the 36 bytes of the STATUS reply. R9 names STATUS among the readers of the head tag, while R19, R184 and
the layout of R193 give the reply no head tag: the model follows the layout and leaves it out (log 38). -/
def statusBytes (s : State) : List Byte :=
  u8 s.state.code ++ u8 s.pll.sync.code ++ u8 s.cue.queue.length ++ u16 (optCode (activeTag s))
  ++ u8 s.report.records.length ++ u8 s.report.lost.toNat ++ u8 s.report.lostCount
  ++ u16 s.alert.pending.toNat ++ u8 (causeCode (shownCause s))
  ++ u32 s.cue.accepted.toNat ++ u32 s.cue.started.toNat ++ u32 s.cue.ended.toNat ++ u32 s.cue.discarded.toNat
  ++ u32 s.group.runCycle.toNat ++ u16 s.pll.runFreq ++ u8 s.peer.barred.toNat ++ u8 s.port.frameCuts
  ++ u8 (resetFlags s.port)

/-- R193: byte 0 of an entry of the PEERS reply. -/
def PeerEntry.flags (e : PeerEntry) : Nat :=
  e.present.toNat + 2 * e.member.toNat + 4 * e.frame.isSome.toNat + 8 * (e.missed % 4)
    + 32 * (match e.frame with | some f => f.limiting.toNat | none => 0)

/-- R105, R193: the sixteen bytes of one entry of the PEERS reply: frame bytes 0, 1 and 3 to 14. -/
def PeerEntry.bytes (e : PeerEntry) : List Byte :=
  u8 e.flags ++ u8 e.shareRun ++
    (match e.frame with
     | some f => f.body.take 2 ++ f.body.drop 3
     | none => List.replicate 14 0#8)

/-- R105: the 128 bytes of the PEERS reply. -/
def peersBytes (table : List PeerEntry) : List Byte := table.flatMap PeerEntry.bytes

end Sys2Proof.Machine
end

