-- ==== Sys2Proof/Machine/Numeric.lean ====
section
/-! DEFINITION. Rounding, square roots and the sine, as exact integer arithmetic; reaching an angle on an arc. -/

namespace Sys2Proof.Machine

/-- Rounded to the nearest whole number, a half away from zero (R127, R145). -/
def roundAway (num : Int) (den : Nat) : Int :=
  if num < 0 then -(((2 * num.natAbs + den) / (2 * den) : Nat) : Int)
  else (((2 * num.natAbs + den) / (2 * den) : Nat) : Int)

/-- One bit of the square root per step: the greatest root below `r + 2^k` whose square does not exceed `n`. -/
def isqrtBits : Nat → Nat → Nat → Nat
  | 0, _, r => r
  | k + 1, n, r => isqrtBits k n (if (r + 2 ^ k) * (r + 2 ^ k) ≤ n then r + 2 ^ k else r)

/-- The whole part of the square root of a number below 2^64. -/
def isqrt (n : Nat) : Nat := isqrtBits 32 n 0

/-- The square root of `num / den` rounded to the nearest whole number, a half up (R134, R151):
the whole part of (2x + 1) / 2. -/
def roundSqrt (num den : Nat) : Nat := (isqrt (4 * num / den) + 1) / 2

/-- The terms of the sine series of `x` (in 2^-sineBits), summed from the term of index `k` on. -/
def sineSeries : Nat → Nat → Nat → Int → Int
  | 0, _, _, _ => 0
  | fuel + 1, k, xsq, term =>
    term + sineSeries fuel (k + 1) xsq
      (-(term * xsq / (2 ^ Config.sineBits : Nat)) / (((2 * k + 2) * (2 * k + 3) : Nat) : Int))

/-- The sine of an angle of 0 to 900 units, in 2^-sineBits. -/
def sineQuarter (k : Nat) : Int :=
  let x : Nat := k * Config.piDigits * 2 ^ Config.sineBits / (1800 * Config.piScale)
  sineSeries 30 0 (x * x / 2 ^ Config.sineBits) x

/-- The sine of an angle, in 2^-sineBits (R126). -/
def sine (angle : Nat) : Int :=
  let a := angle % Config.cycle
  if a < 900 then sineQuarter a
  else if a < 1800 then sineQuarter (1800 - a)
  else if a < 2700 then -sineQuarter (a - 1800)
  else -sineQuarter (3600 - a)

/-- R75: an angle is reached when it lies on the arc of length `arc` that ends at `now`, its start excluded. -/
def reached (angle now arc : Nat) : Bool :=
  decide ((now + Config.cycle - angle % Config.cycle) % Config.cycle < arc)

/-- R75: how many crossings of 0 or 1800 lie on the arc of length `arc` that ends at `now`. -/
def crossings (now arc : Nat) : Nat :=
  let base := now + Config.cycle * (arc / Config.cycle + 1)
  base / Config.halfCycle - (base - arc) / Config.halfCycle

/-- A count that stops at its maximum. -/
def satAdd (max n d : Nat) : Nat := min max (n + d)

end Sys2Proof.Machine
end

