-- ==== Sys2Proof/Machine/Operands.lean ====
section
/-! DEFINITION. The operands of the host commands: every payload form of R193 and the tests that judge it (R2 to R6,
R133, R165, R172, R186). -/

namespace Sys2Proof.Machine

/-- A refusal: result code and reply bytes. -/
abbrev Refused := Result × List Byte

def badField (i : Nat) : Refused := (.badField, u8 i)

def missingField (i : Nat) : Refused := (.missingField, u8 i)

/-! ### The cue record (R2 to R6, R193) -/

/-- R193: the size of a field. -/
def fieldSize (i : Nat) : Nat := [2, 1, 1, 2, 1, 2, 2, 2, 2, 2, 2, 2, 1, 1, 1, 1].getD i 0

/-- The sixteen field indices. -/
def fieldIndices : List Nat := [0, 1, 2, 3, 4, 5, 6, 7, 8, 9, 10, 11, 12, 13, 14, 15]

/-- R193: the sizes of the fields a mask marks. -/
def markedSize (mask : Nat) : List Nat → Nat
  | [] => 0
  | i :: is => (if mask.testBit i then fieldSize i else 0) + markedSize mask is

/-- R193: the fields as read, each present with its number or absent. -/
def rawFields (mask : Nat) : List Nat → List Byte → List (Option Nat)
  | [], _ => []
  | i :: is, bytes =>
    if mask.testBit i then some (be (bytes.take (fieldSize i))) :: rawFields mask is (bytes.drop (fieldSize i))
    else none :: rawFields mask is bytes

/-- Whether a kind's cue carries a field (R3). -/
inductive Presence where
  | required | optional | forbidden
  deriving DecidableEq, Repr

/-- R3: the presence of field `i` in a cue of a kind; index 4 follows index 3 and is judged apart. -/
def presence (k : CueKind) (i : Nat) : Presence :=
  match i with
  | 0 | 1 | 2 | 14 => .required
  | 3 => match k with | .freq | .endRun => .forbidden | _ => .optional
  | 5 => match k with
         | .level | .ramp | .flicker => .required
         | .endRun => .forbidden
         | _ => .optional
  | 6 => match k with | .flicker => .required | _ => .forbidden
  | 7 => match k with | .endRun => .forbidden | _ => .required
  | 8 => match k with | .ramp => .required | _ => .forbidden
  | 9 => match k with | .phase => .required | _ => .forbidden
  | 10 => match k with | .freq => .required | _ => .forbidden
  | 11 => match k with | .flicker => .required | _ => .forbidden
  | 12 => match k with | .harmonic => .required | _ => .forbidden
  | 13 => match k with | .gap => .required | _ => .forbidden
  | 15 => match k with | .endRun => .forbidden | _ => .optional
  | _ => .optional

/-- R2: the range of a present field, as read. -/
def inRange (i v : Nat) : Bool :=
  match i with
  | 0 => decide (v ≤ 65534)
  | 1 => decide (v ≤ 7)
  | 2 | 4 | 13 | 14 => decide (v ≤ 1)
  | 3 => decide (v ≤ 3599)
  | 5 | 6 => decide (v ≤ 1500)
  | 8 => decide (1 ≤ v)
  | 9 => decide (-1800 ≤ signed16 v ∧ signed16 v ≤ 1800)
  | 10 => decide (4000 ≤ v ∧ v ≤ 7000)
  | 11 => decide (1 ≤ v ∧ v ≤ 2400)
  | 12 => decide (v ≤ 7 ∨ v = 255)
  | 15 => decide (v ≤ 200)
  | _ => true

/-- The value of field `i` as read. -/
def rawAt (raw : List (Option Nat)) (i : Nat) : Option Nat := raw.getD i none

/-- R6: a named set holds no entries. -/
def setEmpty (sets : List HarmonicSet) (v : Nat) : Bool :=
  decide (v ≤ 7) && (sets.getD v {}).entries.isEmpty

/-- R5, R6: the further tests of field `i`; true is a fault. -/
def furtherFault (sets : List HarmonicSet) (k : CueKind) (raw : List (Option Nat)) (i v : Nat) : Bool :=
  match i with
  | 2 => decide ((k = .freq ∨ k = .endRun) ∧ v = 1)
  | 8 => decide (k = .ramp ∧ (rawAt raw 7).getD 0 ≠ 0 ∧ (rawAt raw 7).getD 0 < v)
  | 12 => setEmpty sets v
  | 14 => decide (k = .endRun ∧ v = 1)
  | _ => false

/-- R4: the presence rule that holds for field `i`; index 4 follows index 3 (R3). -/
def presenceOf (k : CueKind) (raw : List (Option Nat)) (i : Nat) : Presence :=
  if i = 4 then (if (rawAt raw 3).isSome then .required else .forbidden) else presence k i

/-- R4: the tests of one field, in order. -/
def fieldFault (sets : List HarmonicSet) (k : CueKind) (raw : List (Option Nat)) (i : Nat) : Option Refused :=
  match presenceOf k raw i, rawAt raw i with
  | .forbidden, some _ => some (badField i)
  | .required, none => some (missingField i)
  | _, none => none
  | _, some v => if !inRange i v || furtherFault sets k raw i v then some (badField i) else none

/-- R2: the record of a valid raw cue; an absent field stays absent (R7). -/
def buildCue (k : CueKind) (raw : List (Option Nat)) : Cue where
  tag := (rawAt raw 0).getD 0
  kind := k
  gate := if rawAt raw 2 = some 1 then .localCue else .group
  startAngle := rawAt raw 3
  angleRef := (rawAt raw 4).map (fun v => if v = 1 then .system else .own)
  ampA := rawAt raw 5
  ampA2 := rawAt raw 6
  duration := rawAt raw 7
  rampLength := rawAt raw 8
  phaseDelta := (rawAt raw 9).map signed16
  frequency := rawAt raw 10
  rate := rawAt raw 11
  harmonicSet := (rawAt raw 12).map (fun v => if v = 255 then .none else .set v)
  switchMode := (rawAt raw 13).map (fun v => if v = 1 then .lowZ else .highZ)
  check := decide (rawAt raw 14 = some 1)
  tolerance := rawAt raw 15

/-- R4: a record's tests: index 0 and 1 first, then the fields whose rules depend on the kind. -/
def judgeRaw (sets : List HarmonicSet) (raw : List (Option Nat)) : Except Refused Cue :=
  match rawAt raw 0 with
  | none => .error (missingField 0)
  | some tag =>
    if !inRange 0 tag then .error (badField 0)
    else
      match rawAt raw 1 with
      | none => .error (missingField 1)
      | some kc =>
        match CueKind.ofCode kc with
        | none => .error (badField 1)
        | some k =>
          match fieldIndices.findSome? (fieldFault sets k raw) with
          | some r => .error r
          | none => .ok (buildCue k raw)

/-- R4: the payload of a CUE command as a cue, or its refusal; the payload as a whole comes first (index 16). -/
def parseCue (sets : List HarmonicSet) (payload : List Byte) : Except Refused Cue :=
  if payload.length < 2 then .error (badField 16)
  else
    let mask := be (payload.take 2)
    if payload.length ≠ 2 + markedSize mask fieldIndices then .error (badField 16)
    else judgeRaw sets (rawFields mask fieldIndices (payload.drop 2))

/-- A field's bytes when present. -/
def fieldBytes (size : Nat) : Option Nat → List Byte
  | none => []
  | some v => if size = 1 then u8 v else u16 v

/-- R2: the fields of a record as the numbers R191 codes them by. -/
def Cue.raw (c : Cue) : List (Option Nat) :=
  [some c.tag, some c.kind.code, some c.gate.code, c.startAngle, c.angleRef.map AngleRef.code,
   c.ampA, c.ampA2, c.duration, c.rampLength, c.phaseDelta.map (fun d => (d % 65536).toNat),
   c.frequency, c.rate, c.harmonicSet.map SetName.code, c.switchMode.map SwitchMode.code,
   some c.check.toNat, c.tolerance]

/-- R193: the presence mask of fields from index `i` on. -/
def maskOf : Nat → List (Option Nat) → Nat
  | _, [] => 0
  | i, f :: fs => (if f.isSome then 2 ^ i else 0) + maskOf (i + 1) fs

/-- R193: the bytes of the present fields from index `i` on. -/
def rawBytes : Nat → List (Option Nat) → List Byte
  | _, [] => []
  | i, f :: fs => fieldBytes (fieldSize i) f ++ rawBytes (i + 1) fs

/-- R193: the payload that spells a cue record. -/
def Cue.payload (c : Cue) : List Byte := u16 (maskOf 0 c.raw) ++ rawBytes 0 c.raw

/-! ### SETUP (R186, R193) -/

/-- R186: the first field outside its range. -/
def setupFault (s : Setup) : Option Nat :=
  if s.nominal < 4000 ∨ 7000 < s.nominal then some 0
  else if s.groupSize < 1 ∨ 8 < s.groupSize then some 1
  else if 3599 < s.phaseOffset then some 2
  else if s.gateLimit < 1 ∨ 250 < s.gateLimit then some 3
  else if 200 < s.tolerance then some 4
  else if 255 < s.missLimit then some 5
  else if 3 < s.checkSkip then some 6
  else if s.currentLimit < 10 ∨ 300 < s.currentLimit then some 7
  else if s.limitHold < 1 ∨ 200 < s.limitHold then some 8
  else if 1000 < s.shareLimit then some 9
  else if 31 < s.watermark then some 10
  else if s.ratio ≠ 64 ∧ s.ratio ≠ 128 ∧ s.ratio ≠ 256 then some 11
  else if s.breakGap < 1 ∨ 20 < s.breakGap then some 12
  else none

/-- R193: the thirteen fields of an 18-byte payload. -/
def readSetup (p : List Byte) : Setup where
  nominal := wordAt p 0
  groupSize := byteAt p 2
  phaseOffset := wordAt p 3
  gateLimit := byteAt p 5
  tolerance := byteAt p 6
  missLimit := byteAt p 7
  checkSkip := byteAt p 8
  currentLimit := wordAt p 9
  limitHold := byteAt p 11
  shareLimit := wordAt p 12
  watermark := byteAt p 14
  ratio := wordAt p 15
  breakGap := byteAt p 17

/-- R186: the payload of a SETUP command, or its refusal. -/
def parseSetup (p : List Byte) : Except Refused Setup :=
  if p.length ≠ 18 then .error (badField 13)
  else
    match setupFault (readSetup p) with
    | some i => .error (badField i)
    | none => .ok (readSetup p)

/-- R193: the payload that spells a setup. -/
def Setup.payload (s : Setup) : List Byte :=
  u16 s.nominal ++ u8 s.groupSize ++ u16 s.phaseOffset ++ u8 s.gateLimit ++ u8 s.tolerance ++ u8 s.missLimit
  ++ u8 s.checkSkip ++ u16 s.currentLimit ++ u8 s.limitHold ++ u16 s.shareLimit ++ u8 s.watermark
  ++ u16 s.ratio ++ u8 s.breakGap

/-! ### HSET (R133, R134, R193) -/

/-- R193: `n` entries of five bytes each. -/
def readEntries : Nat → List Byte → List HarmonicEntry
  | 0, _ => []
  | n + 1, p => { order := byteAt p 0, amplitude := wordAt p 1, phase := wordAt p 3 } :: readEntries n (p.drop 5)

/-- R133 test 4: the index of the first item out of range, entries counted from `j`. -/
def entryFault : Nat → List HarmonicEntry → Option Nat
  | _, [] => none
  | j, e :: es =>
    if e.order < 2 ∨ 50 < e.order then some (3 * j - 1)
    else if 3000 < e.amplitude then some (3 * j)
    else if 3599 < e.phase then some (3 * j + 1)
    else entryFault (j + 1) es

/-- R133 test 5: the order index of the first entry that repeats an earlier order. -/
def repeatFault : Nat → List Nat → List HarmonicEntry → Option Nat
  | _, _, [] => none
  | j, seen, e :: es =>
    if seen.contains e.order then some (3 * j - 1) else repeatFault (j + 1) (e.order :: seen) es

/-- R133 tests 2 to 5: set number and entries of an HSET payload, or its refusal. -/
def parseHset (p : List Byte) : Except Refused (Nat × List HarmonicEntry) :=
  if p.length < 2 then .error (badField 38)
  else if 7 < byteAt p 0 then .error (badField 0)
  else if 12 < byteAt p 1 then .error (badField 1)
  else if p.length ≠ 2 + 5 * byteAt p 1 then .error (badField 38)
  else
    let es := readEntries (byteAt p 1) (p.drop 2)
    match entryFault 1 es with
    | some i => .error (badField i)
    | none =>
      match repeatFault 1 [] es with
      | some i => .error (badField i)
      | none => .ok (byteAt p 0, es)

/-- The sum of the squares of the amplitudes. -/
def sumSquares (es : List HarmonicEntry) : Nat := (es.map (fun e => e.amplitude * e.amplitude)).sum

/-- R134: the RMS factor in thousandths: the root of 1 + the sum of (a / 10 000)^2, to the nearest 0.001. -/
def rmsFactor (es : List HarmonicEntry) : Nat := roundSqrt (1000000 * (100000000 + sumSquares es)) 100000000

/-! ### TAKE (R165) and ALERT_SET (R172) -/

/-- R165: the request count of a TAKE payload. -/
def parseTake (p : List Byte) : Except Refused Nat :=
  if p.length ≠ 1 then .error (badField 1)
  else if byteAt p 0 < 1 ∨ 4 < byteAt p 0 then .error (badField 0)
  else .ok (byteAt p 0)

/-- R172: the index of the first priority above 3, counted from `i`. -/
def priorityFault : Nat → List Nat → Option Nat
  | _, [] => none
  | i, n :: ns => if 3 < n then some i else priorityFault (i + 1) ns

/-- R172: the fields of an ALERT_SET payload: enables, priorities, threshold. -/
structure AlertSettings where
  enable : BitVec 14
  prio : List Nat
  threshold : Nat
  deriving DecidableEq, Repr

/-- R172: the payload of an ALERT_SET command, or its refusal. -/
def parseAlertSet (p : List Byte) : Except Refused AlertSettings :=
  if p.length ≠ 17 then .error (badField 16)
  else
    let prio := ((p.drop 2).take 14).map BitVec.toNat
    if 16384 ≤ wordAt p 0 then .error (badField 0)
    else
      match priorityFault 1 prio with
      | some i => .error (badField i)
      | none =>
        if 3 < byteAt p 16 then .error (badField 15)
        else .ok { enable := BitVec.ofNat 14 (wordAt p 0), prio := prio, threshold := byteAt p 16 }

end Sys2Proof.Machine
end

