-- ==== Sys2Proof/Machine/Ops.lean ====
section
/-! DEFINITION. The named operations that the commands share: offers, switch and stop requests, the life of the
active cue, the gate judgement, passing a fault cause and fault entry. -/

namespace Sys2Proof.Machine

/-! ### Readings -/

/-- 00, "Words with a fixed sense": joined is any state other than CONFIG. -/
def State.joined (s : State) : Bool := decide (s.state ≠ .config)

/-- R189, R183, R188: the port hears a frame: no reset lasts, CSN has been seen high since the reset, and no frame
of a taken RESET is still open. -/
def State.hears (s : State) : Bool := !s.inReset && !s.port.deaf && !s.port.resetTaken

/-- R98: the entry of a station number. -/
def State.entry (s : State) (n : Fin 8) : PeerEntry := s.peer.table.getD n.val {}

def State.setEntry (n : Fin 8) (e : PeerEntry) (s : State) : State :=
  { s with peer := { s.peer with table := s.peer.table.set n.val e } }

/-- The eight station numbers. -/
def stations : List (Fin 8) := [0, 1, 2, 3, 4, 5, 6, 7]

/-- The seven other station numbers. -/
def State.others (s : State) : List (Fin 8) := stations.filter (fun n => decide (n ≠ s.straps.number))

/-- R63: the roster, ascending: the stations whose entries bear the roster-member mark. -/
def State.roster (s : State) : List (Fin 8) := stations.filter (fun n => (s.entry n).member)

/-- R187: the phase offset of the strap, or of the setup for ANY. -/
def phaseOffset (s : State) : Nat :=
  match s.straps.phase with
  | .l1 => 0 | .l2 => 2400 | .l3 => 1200 | .any => s.setup.phaseOffset

/-- 00, "Angle": the waveform angle at the last sample, under a phase-step offset. -/
def waveAngleAt (s : State) (offset : Nat) : Nat := (s.pll.sysAngle + phaseOffset s + offset) % Config.cycle

/-- 00, "Angle": the waveform angle at the last sample. -/
def waveAngle (s : State) : Nat := waveAngleAt s s.synth.stepOffset

/-- R110: TK_FLT as a station that releases it sees it, true for high. -/
def fltSeenHigh (s : State) : Bool := s.lines.fltHigh && !s.fault.fltLow

/-- R57: TK_GATE as the station sees it: high while neither it nor another station holds it low. -/
def gateSeenHigh (s : State) : Bool := s.lines.gateHigh && decide (s.group.drive ≠ .heldLow)

/-- R91: the next group tag: the tag of the oldest GROUP cue in the queue (R9). -/
def nextGroupTag (s : State) : Option Nat :=
  (s.cue.queue.find? (fun c => decide (c.gate = .group))).map Cue.tag

/-! ### The Report Queue -/

/-- R163, R164: a record is offered: stored, or counted lost. -/
def offer (r : Record) (s : State) : State :=
  if s.report.lost then
    { s with report := { s.report with lostCount := min 255 (s.report.lostCount + 1) } }
  else if Config.reportCapacity ≤ s.report.records.length then
    raise .reportLoss { s with report := { s.report with lost := true, lostCount := 1 } }
  else
    raiseIf s.report.records.isEmpty .reportReady
      { s with report := { s.report with records := s.report.records ++ [r] } }

/-! ### The Switch Unit -/

/-- The requests of R139 other than the stop, whose part is `stopSwitches`. -/
inductive SwitchRequest where
  | runStart
  | gapStart (m : SwitchMode)
  | gapEnd (m : SwitchMode)
  | coincident (old new : SwitchMode)
  | stopCompletion
  deriving DecidableEq, Repr

/-- R144: a change of a switch is reported: it marks the half-cycle in progress (R150). -/
def reportSwitch (s : State) : State :=
  { s with meas := { s.meas with hc := { s.meas.hc with switchChange := true } } }

def openSw0 (s : State) : State :=
  if s.sw.sw0 then reportSwitch { s with sw := { s.sw with sw0 := false } } else s

def openSw1 (s : State) : State :=
  if s.sw.sw1 then reportSwitch { s with sw := { s.sw with sw1 := false } } else s

/-- R142: a closing of SW0 is not carried out while SW1 is closed. -/
def closeSw0 (s : State) : State :=
  if s.sw.sw0 || s.sw.sw1 then s else reportSwitch { s with sw := { s.sw with sw0 := true } }

/-- R142: a closing of SW1 is not carried out while SW0 is closed. -/
def closeSw1 (s : State) : State :=
  if s.sw.sw1 || s.sw.sw0 then s else reportSwitch { s with sw := { s.sw with sw1 := true } }

def setTransition (t : Option Transition) (s : State) : State := { s with sw := { s.sw with pending := t } }

/-- R140: the closing of a pending transition is due at the present sample. -/
def closeDue (s : State) : Bool :=
  match s.sw.pending with
  | some t => decide (t.remaining = 0)
  | none => false

/-- R140, R142: a closing that is due is carried out, subject to the interlock, and the record is cleared. -/
def takeDueClosing (s : State) : State :=
  match s.sw.pending with
  | some t =>
    if t.remaining = 0 then
      match t.switch with
      | .sw0 => closeSw0 (setTransition none s)
      | .sw1 => closeSw1 (setTransition none s)
    else s
  | none => s

/-- R139: a request is carried out, after a closing due at the same sample (R140). -/
def doSwitch (r : SwitchRequest) (s : State) : State :=
  let s := takeDueClosing s
  let gap := s.setup.breakGap
  match r with
  | .runStart => closeSw0 (setTransition none s)
  | .gapStart .highZ => openSw0 (setTransition none s)
  | .gapStart .lowZ => setTransition (some ⟨.sw1, gap⟩) (openSw0 s)
  | .gapEnd .highZ => closeSw0 (setTransition none s)
  | .gapEnd .lowZ => setTransition (some ⟨.sw0, gap⟩) (openSw1 s)
  | .coincident .highZ .highZ => s
  | .coincident .lowZ .lowZ => s
  | .coincident .highZ .lowZ => setTransition (some ⟨.sw1, gap⟩) s
  | .coincident .lowZ .highZ => openSw1 (setTransition none s)
  | .stopCompletion => openSw0 (setTransition none s)

/-- R143: the stop's part at the instant of the request: SW1 opens, any pending transition is cleared; the change
is reported against the next sample (R144). -/
def stopSwitches (s : State) : State :=
  let s := setTransition none (takeDueClosing s)
  if s.sw.sw1 then
    { s with sw := { s.sw with sw1 := false }, meas := { s.meas with switchMark := true } }
  else s

/-! ### The stop -/

/-- R136: the stop is requested; one already under way is not requested a second time (R137). The run start that
still waits for its sample is dropped (R143). -/
def requestStop (s : State) : State :=
  if s.synth.stop then s
  else stopSwitches
    { s with synth := { s.synth with
        stop := true
        flicker := s.synth.flicker.map (fun f => { f with armed := false })
        flickerDue := false
        runStart := false } }

/-! ### The end of a cue -/

/-- R21: the active cue is RUNNING with duration 0. -/
def ActiveCue.open (a : ActiveCue) : Bool := decide (a.phase = .running) && decide (a.cue.duration = some 0)

/-- R31, R25: the CUE_END record of the active cue as it stands. The check counts of an END cue that ends DONE are 0
(R45); one that is cut carries the limited half-cycles charged to its span (R156). -/
def cueEndRecord (s : State) (a : ActiveCue) (o : CueOutcome) : Record :=
  let r := match s.meas.span with
    | some sp => sp.record
    | none => {}
  .cueEnd {
    tag := a.cue.tag
    kind := a.cue.kind
    outcome := o
    startCycle := a.startCycle.getD a.activationCycle
    startAngle := a.startAngle
    halfCycles := min Config.countMax (a.advance / Config.halfCycle)
    checked := r.checked
    missed := r.missed
    limited := if a.cue.kind = .endRun ∧ o = .done then 0 else r.limited
    clipped := if a.phase = .running then s.synth.clipped else 0
    worst := r.worst
    minV := r.minV
    maxV := r.maxV }

/-- R154: the span closes. -/
def closeSpan (s : State) : State :=
  { s with meas := { s.meas with span := none, hc := { s.meas.hc with whole := false, rampOver := false } } }

/-- R31: the active cue ends: its record is offered, the ended counter increases, CUE_DONE goes pending. -/
def endCue (o : CueOutcome) (s : State) : State :=
  match s.cue.active with
  | none => s
  | some a =>
    raise .cueDone (offer (cueEndRecord s a o)
      (closeSpan { s with cue := { s.cue with active := none, ended := s.cue.ended + 1 } }))

/-- R38: FLICKER's end request: the envelope becomes A, an armed change is dropped, the levels are cleared. -/
def flickerReturn (a : ActiveCue) (s : State) : State :=
  { s with synth := { s.synth with
      envelope := a.cue.ampA.getD s.synth.envelope, flicker := none, flickerDue := false } }

/-- R26, R43: a RUNNING duration-0 cue ends at its successor's activation. -/
def supersede (s : State) : State :=
  match s.cue.active with
  | none => s
  | some a =>
    if a.open then
      endCue .done (match a.cue.kind with
        | .flicker => flickerReturn a s
        | .gap => { s with cue := { s.cue with deferredGap := a.cue.switchMode } }
        | _ => s)
    else s

/-! ### Activation -/

/-- The execution state of a cue at its activation (R21). -/
def freshActive (c : Cue) (atSample : Bool) (cycle : Count32) : ActiveCue where
  cue := c
  phase := .pendingAngle
  awaiting := !atSample
  activationCycle := cycle
  startCycle := none
  startAngle := none
  advance := 0
  rampFrom := 0
  rampDone := false
  toggles := 0
  stopRequested := false

def zeroCounts : List Nat := [0, 0, 0, 0, 0, 0, 0, 0]

/-- R61: every tag mismatch count becomes 0. -/
def clearTags (s : State) : State := { s with group := { s.group with tagCounts := zeroCounts } }

/-- R10, R20: the head becomes the active cue; a RUNNING duration-0 cue ends first (R26). An END cue drops a
deferred GAP end (R44), a FREQ cue passes its frequency on (R86). -/
def activate (atSample : Bool) (s : State) : State :=
  match s.cue.queue with
  | [] => s
  | c :: rest =>
    let s := supersede s
    raiseIf (decide (rest.length ≤ s.setup.watermark)) .queueLow
      (clearTags { s with
        cue := { s.cue with
          queue := rest
          active := some (freshActive c atSample s.group.runCycle)
          started := s.cue.started + 1
          deferredGap := if c.kind = .endRun then none else s.cue.deferredGap }
        pll := { s.pll with pendingFreq := if c.kind = .freq then c.frequency else s.pll.pendingFreq } })

/-- R26: the active cue is RUNNING with duration 0. -/
def holdsOpen (s : State) : Bool :=
  match s.cue.active with
  | none => false
  | some a => a.open

/-- R27: the station is free. -/
def isFree (s : State) : Bool := s.cue.active.isNone || holdsOpen s

/-- The gate of the head (R9). -/
def headGate (s : State) : Option CueGate := s.cue.queue.head?.map Cue.gate

/-- The tag of the head (R9). -/
def headTag (s : State) : Option Nat := s.cue.queue.head?.map Cue.tag

/-- R27: a station in RUN that is free looks at its head: a LOCAL cue is activated, an empty queue makes QUEUE_DRY
pending (R29). -/
def lookAtHead (atSample : Bool) (s : State) : State :=
  if s.state = .run ∧ isFree s = true then
    match headGate s with
    | none => raise .queueDry s
    | some .localCue => activate atSample s
    | some .group => s
  else s

/-! ### The gate -/

/-- 03, "The Gate Line": the station is at the gate. -/
def atGate (s : State) : Bool :=
  decide (headGate s = some .group) &&
    (decide (s.state = .armed) || (decide (s.state = .run) && isFree s))

/-- A peer's entry is present and its frame satisfies a test. -/
def PeerEntry.shows (e : PeerEntry) (p : PeerFrame → Bool) : Bool :=
  e.present && (match e.frame with | some f => p f | none => false)

/-- A gate tag that is a real tag different from `head`. -/
def otherTag (head : Option Nat) (f : PeerFrame) : Bool := f.gateTag.isSome && decide (f.gateTag ≠ head)

/-- R55: ready in RUN, when at the gate. -/
def readyInRun (s : State) : Bool :=
  fltSeenHigh s && s.others.all (fun n => !((s.entry n).member && (s.entry n).shows (otherTag (headTag s))))

/-- R56: how many stations are armed for the head's tag, the station itself counted. -/
def armedCount (s : State) : Nat :=
  1 + (s.others.filter (fun n =>
    (s.entry n).shows (fun f => decide (f.state = .armed) && decide (f.gateTag = headTag s)))).length

/-- R50, R56: a present entry of another station shows RUN. -/
def runSeen (s : State) : Bool :=
  s.others.any (fun n => (s.entry n).shows (fun f => decide (f.state = .run)))

/-- R56: ready in ARMED, when at the gate. -/
def readyInArmed (s : State) : Bool :=
  decide (s.pll.sync = .locked) && fltSeenHigh s && decide (s.setup.groupSize ≤ armedCount s) && !runSeen s

/-- R55, R56: the station is at the gate and ready. -/
def ready (s : State) : Bool :=
  atGate s && (if s.state = .run then readyInRun s else readyInArmed s)

/-- R53, R58: the station waits: it releases the line, outside its gate pulse. -/
def waiting (s : State) : Bool := decide (s.group.drive = .released) && !s.group.pulse

/-- R53: the release or hold that follows readiness; a new release begins a wait at 0 (R60). -/
def driveGate (s : State) : State :=
  if ready s then
    if s.group.drive = .released then s
    else { s with group := { s.group with drive := .released, timer := 0, timerOn := true } }
  else { s with group := { s.group with drive := .heldLow, timerOn := false } }

/-- R53, R61: readiness is judged afresh; the tag counts are 0 while the station is not at the gate; during the gate
pulse no decision is taken (R58). -/
def judgeGate (s : State) : State :=
  if s.state = .armed ∨ s.state = .run then
    let s := if atGate s then s else clearTags s
    if s.group.pulse then s else driveGate s
  else s

/-- The station stops driving TK_GATE: the timer stops and keeps its count, the tag counts are 0 (R60, R61). A
GATE_TIMEOUT or TAG_MISMATCH already reached is still passed, to be counted as secondary (R108, R112). -/
def stopDriving (s : State) : State :=
  { s with group := { s.group with drive := .notDriven, pulse := false, timerOn := false, tagCounts := zeroCounts } }

/-- No cause of the Group Controller is left to be passed. -/
def dropGateCauses (s : State) : State := { s with group := { s.group with timeoutDue := false, tagDue := 0 } }

/-- The station leaves the gate for a state in which the causes of the gate do not apply. -/
def leaveGate (s : State) : State := dropGateCauses (stopDriving s)

/-! ### Fault entry -/

/-- R12, R15: every queued cue is removed and counted as discarded; QUEUE_LOW goes pending when one was. -/
def flushQueue (s : State) : State :=
  raiseIf (!s.cue.queue.isEmpty) .queueLow
    { s with cue := { s.cue with
        queue := [], discarded := s.cue.discarded + BitVec.ofNat 32 s.cue.queue.length } }

/-- R32, R43, R86: the active cue is cut; a deferred GAP end, what was announced of an activation and a pending frequency
change are dropped. An entry of the very instant of a sample stands behind it, so a half-cycle that closes there is
charged to the cue (R154; log 1). The GAP end dropped can be that of a completed GAP, where the entry comes between its
CUE_COMPLETION and the start of the LOCAL GAP that the end was left to (log 25). -/
def cutCue (s : State) : State :=
  endCue .cut
    { s with
      cue := { s.cue with deferredGap := none, handover := .none }
      pll := { s.pll with pendingFreq := none }
      synth := { s.synth with flicker := none, flickerDue := false } }

/-- R104: every share episode ends. -/
def endShares (s : State) : State :=
  { s with peer := { s.peer with
      table := s.peer.table.map (fun e => { e with shareRun := 0, shareReported := false, shared := none }) } }

/-- R63: the roster and its marks are cleared. -/
def clearRoster (s : State) : State :=
  { s with peer := { s.peer with table := s.peer.table.map (fun e => { e with member := false }) } }

/-- R66, R67, R114: RUN_END is offered and RUN_CHANGE goes pending. -/
def offerRunEnd (reason : EndReason) (s : State) : State :=
  raise .runChange
    (offer (.runEnd reason s.group.runCycle (s.cue.ended - s.group.endedAtOpen)) s)

/-- R113 steps 1 to 3: the Fault Unit's own state at a fault entry. -/
def recordEpisode (c : FaultCause) (s : State) : State :=
  { s with
    state := .fault
    fault := {
      cause := some c
      fltLow := true
      stopComplete := decide (s.state ≠ .run)
      onset := s.group.runCycle
      epochs := 0
      secondary := 0
      cutTag := activeTag s
      discarded := s.cue.queue.length
      origin := if c = .groupFault then none else some s.straps.number
      offered := false } }

/-- R113 to R116: taking a fault cause outside FAULT. -/
def faultEntry (c : FaultCause) (s : State) : State :=
  let t := flushQueue (cutCue (stopDriving (recordEpisode c s)))
  raise .fault
    (if s.state = .run then endShares (offerRunEnd .fault (requestStop t)) else t)

/-- R108: the states a cause applies in. -/
def applies (c : FaultCause) (st : StationState) : Bool :=
  match c, st with
  | .hostAbort, .enroll | .hostAbort, .armed | .hostAbort, .run | .hostAbort, .recover => true
  | .slotClash, .enroll | .slotClash, .armed | .slotClash, .run | .slotClash, .recover => true
  | .gateTimeout, .armed | .gateTimeout, .run => true
  | .tagMismatch, .armed | .tagMismatch, .run => true
  | .groupFault, .armed | .groupFault, .run => true
  | .peerLost, .run | .syncLost, .run | .overload, .run | .outOfTolerance, .run | .measLost, .run => true
  | _, _ => false

/-- R112: a cause that arrives in FAULT. -/
def countSecondary (s : State) : State :=
  { s with fault := { s.fault with secondary := min 255 (s.fault.secondary + 1) } }

/-- R108: a cause is passed to the Fault Unit. -/
def passCause (c : FaultCause) (s : State) : State :=
  if applies c s.state then faultEntry c s
  else if s.state = .fault then countSecondary s
  else s

/-- R118, R119: the FAULT record of the episode is offered. -/
def offerFaultRecord (s : State) : State :=
  match s.fault.cause with
  | none => s
  | some c =>
    offer (.fault {
      cause := c
      origin := s.fault.origin
      onset := s.fault.onset
      cutTag := s.fault.cutTag
      discarded := s.fault.discarded
      secondary := s.fault.secondary })
      { s with fault := { s.fault with offered := true } }

/-- R122: a station in RECOVER that sees TK_FLT high enters ENROLL with its cause NONE. -/
def recoverIfHigh (s : State) : State :=
  if s.state = .recover ∧ fltSeenHigh s = true then
    { s with state := .enroll, fault := { s.fault with cause := none } }
  else s

/-! ### Closing a run -/

/-- R45, R66: an END cue's stop has completed: CUE_END, RUN_END, the restorations, ENROLL. -/
def closeRun (s : State) : State :=
  let t := leaveGate (clearRoster (endShares (offerRunEnd .endCue (endCue .done s))))
  { t with
    state := .enroll
    group := { t.group with timer := 0 }
    pll := { t.pll with runFreq := t.setup.nominal } }

/-! ### Frames of the command port -/

/-- R180: a reply is formed. -/
def answer (r : Result) (bytes : List Byte) (s : State) : State :=
  { s with port := { s.port with reply := some { result := r, bytes := bytes } } }

def refuse (r : Refused) (s : State) : State := answer r.1 r.2 s

/-- R176: CSN rises: no frame is open. -/
def closeFrame (s : State) : State := { s with port := { s.port with stage := .closed } }

/-- R181, R182: a frame was cut. -/
def countCut (s : State) : State :=
  raise .frameCut { s with port := { s.port with frameCuts := min 255 (s.port.frameCuts + 1) } }

/-- R182: the rest of the reply is discarded. -/
def dropReply (s : State) : State := { s with port := { s.port with reply := none } }

/-- R182: a rise of CSN before the reply is complete. -/
def cutReply (s : State) : State :=
  match s.port.reply with
  | none => s
  | some _ => closeFrame (countCut (dropReply s))

/-- R176, R177: the command has ended, with no reply yet. Its summary byte was taken at the fall of CSN where that had a
step of its own (CSN_HIGH_SEEN), and is taken here where it had none (log 17). -/
def endCommand (s : State) : State :=
  { s with port := { s.port with
      reply := none
      summary := if s.port.stage = .command then s.port.summary else summaryByte s
      stage := .answering } }

/-- R176, R182: a frame whose command has ended. CSN has risen since the frame before it, and a reply still under shift was
cut there (log 16). -/
def openFrame (s : State) : State := endCommand (cutReply s)

/-- A frame that the port hears is served by `k`; one it does not hear changes nothing (R183, R189). -/
def serve (k : State → State) (s : State) : Host.Outcome State Fault Refusal :=
  .next (if s.hears then k (openFrame s) else s)

/-- R179: a command without payload, refused with BAD_LENGTH when its LEN is not 0. -/
def bare (payload : List Byte) (k : State → State) (s : State) : State :=
  if payload.isEmpty then k s else answer .badLength [] s

/-! ### Sending a peer frame -/

/-- R91: the content of the station's peer frame. -/
def ownFrame (s : State) : PeerFrame where
  number := s.straps.number
  phase := s.straps.phase
  state := s.state
  lock := decide (s.pll.sync = .locked)
  limiting := s.meas.heldLimiting
  gateTag := nextGroupTag s
  activeTag := activeTag s
  cause := shownCause s
  vRms := s.meas.heldV
  iRms := s.meas.heldI
  groupSize := s.setup.groupSize
  nominal := s.setup.nominal

/-- R89, R95: at its slot's begin a joined, LOCKED and unbarred station begins its frame, and its receiver stops
reading the line. -/
def beginFrame (s : State) : State :=
  if s.joined && decide (s.pll.sync = .locked) && !s.peer.barred then
    { s with peer := { s.peer with tx := some (ownFrame s), rx := .muted } }
  else s

end Sys2Proof.Machine
end

