-- ==== Sys2Proof/Machine/Port.lean ====
section
/-! DEFINITION. The Command Port: STATUS, SETUP, RESET, bad frames, cuts, the complete reply, and the resets (10). -/

namespace Sys2Proof.Machine

/-! ### STATUS, SETUP, RESET -/

/-- R184: the STATUS command as taken. -/
def takeStatus (s : State) : State :=
  { s with port := { s.port with reply := some { result := .ok, bytes := statusBytes s, isStatus := true } } }

/-- STATUS (R184). -/
def execStatus (payload : List Byte) (s : State) : Host.Outcome State Fault Refusal :=
  serve (bare payload takeStatus) s

/-- R186: the SETUP command as taken; outside CONFIG the payload is not examined. -/
def takeSetup (payload : List Byte) (s : State) : State :=
  if s.state = .config then
    match parseSetup payload with
    | .error r => refuse r s
    | .ok x => answer .ok [] { s with setup := x }
  else answer .state [] s

/-- SETUP (R186). -/
def execSetup (payload : List Byte) (s : State) : Host.Outcome State Fault Refusal :=
  serve (takeSetup payload) s

/-- R188: the RESET command as taken: the reset follows at the rise of CSN (COMMAND_RESET). -/
def takeReset (s : State) : State :=
  let t := answer .ok [] s
  { t with port := { t.port with resetTaken := true } }

/-- RESET (R188). -/
def execReset (payload : List Byte) (s : State) : Host.Outcome State Fault Refusal :=
  serve (bare payload takeReset) s

/-! ### Bad frames -/

/-- The codes of the command summary (10). -/
def knownCodes : List Nat :=
  [0x01, 0x02, 0x03, 0x10, 0x11, 0x20, 0x21, 0x22, 0x23, 0x24, 0x25, 0x30, 0x31, 0x32, 0x40, 0x41, 0x42, 0x7E]

/-- UNKNOWN_COMMAND (R179): a taken frame with an unknown code; a known code makes another command's frame, which is
no such event (log 5). -/
def execUnknownCommand (code : Byte) (_payload : List Byte) (s : State) : Host.Outcome State Fault Refusal :=
  if knownCodes.contains code.toNat then .next s else serve (answer .unknown []) s

/-- R179, R190: the check byte of a command. -/
def frameCheck (code : Byte) (payload : List Byte) : Byte :=
  crc8 (code :: BitVec.ofNat 8 payload.length :: payload)

/-- BAD_CHECK_FRAME (R179): the check byte differs; a frame whose check byte agrees is no such event (log 5). -/
def execBadCheckFrame (code : Byte) (payload : List Byte) (check : Byte) (s : State) :
    Host.Outcome State Fault Refusal :=
  if frameCheck code payload = check then .next s else serve (answer .badCheck []) s

/-- LEN_ABOVE_64 (R178): the command ends after LEN; a LEN of 0 to 64 is no such event (log 5). -/
def execLenAbove64 (_code len : Byte) (s : State) : Host.Outcome State Fault Refusal :=
  if len.toNat ≤ 64 then .next s else serve (answer .badLength []) s

/-! ### Cuts and the complete reply -/

/-- R181, R176: without a rising edge of SCK the span was no frame: it is not counted, and CSN is high after it. A reply
still under shift was cut at the rise before it (R182, log 16). -/
def closeSpanOfCsn (s : State) : State := if s.hears then closeFrame (cutReply s) else s

/-- R181: the cut command ends its frame. -/
def cutCommand (s : State) : State := closeFrame (countCut s)

/-- COMMAND_CUT (R181): CSN rises before the command has ended. -/
def execCommandCut (sckEdges : Nat) (s : State) : Host.Outcome State Fault Refusal :=
  if sckEdges = 0 then .next (closeSpanOfCsn s) else serve cutCommand s

/-- REPLY_CUT (R182). -/
def execReplyCut (s : State) : Host.Outcome State Fault Refusal := .next (cutReply s)

/-- R166: the records a TAKE reply carried leave the head of the queue. -/
def removeCarried (k : Nat) (s : State) : State :=
  { s with report := { s.report with records := s.report.records.drop k } }

/-- R185: a complete STATUS reply clears the reset-cause flags. -/
def clearResetFlags (s : State) : State :=
  { s with port := { s.port with powerOn := false, pinFlag := false, commandFlag := false } }

/-- R182: the effects that wait for the complete reply. -/
def completeReply (s : State) : State :=
  match s.port.reply with
  | none => s
  | some r =>
    let t := removeCarried r.carried (dropReply s)
    if r.isStatus then clearResetFlags t else t

/-- REPLY_COMPLETE (R182). -/
def execReplyComplete (s : State) : Host.Outcome State Fault Refusal := .next (completeReply s)

/-! ### Resets -/

/-- R189: a reset begins: every block at the values of R189's table. What it keeps is given: the reset-cause flags
(R185), whether the port must see CSN high (R183), the harmonic sets (R132). The straps are sampled at its end. -/
def resetTo (port : Port) (sets : List HarmonicSet) (s : State) : State :=
  { pending := s.pending
    inReset := true
    straps := s.straps
    lines := s.lines
    port := port
    synth := { sets := sets } }

/-- R132: eight empty sets. -/
def emptySets : List HarmonicSet := [{}, {}, {}, {}, {}, {}, {}, {}]

/-- R188: the reset that a taken RESET makes at the rise of CSN. R188 gives that reset no length: like the others it lasts
in the model until its RESET_END row, which R187 gives every kind of reset (log 43). -/
def commandReset (s : State) : State :=
  if s.port.resetTaken then
    resetTo { powerOn := s.port.powerOn, pinFlag := s.port.pinFlag, commandFlag := true } s.synth.sets s
  else s

/-- COMMAND_RESET (R188). -/
def execCommandReset (s : State) : Host.Outcome State Fault Refusal := .next (commandReset s)

/-- PIN_RESET (R189). -/
def execPinReset (s : State) : Host.Outcome State Fault Refusal :=
  .next (resetTo
    { deaf := true, powerOn := s.port.powerOn, pinFlag := true, commandFlag := s.port.commandFlag } emptySets s)

/-- POWER_ON_RESET (R189). -/
def execPowerOnReset (s : State) : Host.Outcome State Fault Refusal :=
  .next (resetTo { deaf := true, powerOn := true } emptySets s)

/-- R187, R197: the phase assignment of the levels of PH1 and PH0. -/
def strapPhase (ph1 ph0 : Bool) : PhaseAssign :=
  match ph1, ph0 with
  | false, false => .l1
  | false, true => .l2
  | true, false => .l3
  | true, true => .any

/-- R187, R183: the end of a reset: the straps are sampled; the port listens once it sees CSN high. Behind the reset of a
RESET command it listens at once, with no frame open: that reset began at the rise of CSN, so the port has seen it high,
and a CSN found low at its end is the model's own case, since R188 gives that reset no length (log 43). -/
def endReset (id : Fin 8) (phase : PhaseAssign) (csnHigh : Bool) (s : State) : State :=
  if s.inReset then
    { s with
      inReset := false
      straps := { number := id, phase := phase }
      port := { s.port with deaf := s.port.deaf && !csnHigh } }
  else s

/-- RESET_END (R187). -/
def execResetEnd (id : Fin 8) (ph1 ph0 csnHigh : Bool) (s : State) : Host.Outcome State Fault Refusal :=
  .next (endReset id (strapPhase ph1 ph0) csnHigh s)

/-! ### CSN and SDO -/

/-- R177: CSN falls: the summary byte is taken from the station as it stands, and the command begins. -/
def beginCommand (s : State) : State :=
  { s with port := { s.port with stage := .command, summary := summaryByte s } }

/-- R183, R176: CSN is seen high: the port listens, and no frame is open. A reply under shift is cut (R182). The row has no
count of SCK edges: while a command is coming in the model takes it for the end of a span without any, which R181 does not
count; a cut command has the row COMMAND_CUT (log 41). -/
def seeCsnHigh (s : State) : State :=
  let t := cutReply s
  { t with port := { t.port with deaf := false, stage := .closed } }

/-- R183: the port has not seen CSN high since the reset, or a frame is open: CSN is low. -/
def csnLow (p : Port) : Bool := p.deaf || decide (p.stage ≠ .closed)

/-- CSN is seen high: where it was low it has risen; a port that listens with CSN high has seen it high up to this
instant, at which it falls (log 17). While a reset lasts the port sees nothing, and the rise that ends the frame of a
taken RESET is COMMAND_RESET. -/
def watchCsn (s : State) : State :=
  if s.inReset || s.port.resetTaken then s
  else if csnLow s.port then seeCsnHigh s
  else beginCommand s

/-- CSN_HIGH_SEEN (R183). -/
def execCsnHighSeen (s : State) : Host.Outcome State Fault Refusal := .next (watchCsn s)

/-- R176, R189: the station drives SDO while CSN is low: in an open frame, and before CSN is seen high after a reset; it
leaves it high-impedance otherwise and while a reset lasts. -/
def sdoDriven (s : State) : Bool := !s.inReset && csnLow s.port

/-- R176: the first `n` bytes shifted out under a command: the summary byte, then 0x00. -/
def commandOut (summary : Byte) (n : Nat) : List Byte := (summary :: List.replicate n 0x00#8).take n

/-- R180: the first `n` bytes shifted out behind a command: as many filler bytes as come before the reply is ready, the
reply, and 0xFF after it. -/
def replyOut (filler : Nat) (r : Option Reply) (n : Nat) : List Byte :=
  (List.replicate filler 0xFF#8 ++ (match r with | some x => x.frame | none => []) ++ List.replicate n 0xFF#8).take n

/-- R176, R180: the first `n` bytes the station shifts out in the part of the frame it is in. -/
def Port.sdoBytes (p : Port) (filler n : Nat) : List Byte :=
  match p.stage with
  | .closed => []
  | .command => commandOut p.summary n
  | .answering => replyOut filler p.reply n

end Sys2Proof.Machine
end

