-- ==== Sys2Proof/Machine/LineCode.lean ====
section
/-! DEFINITION. The bits of the serial lines, high as true: the coding of a peer frame on TK_DAT and the level the
station gives that line (R90, R195), its readback (R92, R93), the frame a receiver reads from the bits (R95), the bits of
a word on the DAC port (R128, R198) and of the bytes on SDO and SDI (R176). Each bit has a number and no instant (log 8). -/

namespace Sys2Proof.Machine

/-! ### The bits of a byte -/

/-- R195, R176: the eight bits of a byte, the most significant first. -/
def byteBits (b : Byte) : List Bool :=
  [b.getLsbD 7, b.getLsbD 6, b.getLsbD 5, b.getLsbD 4, b.getLsbD 3, b.getLsbD 2, b.getLsbD 1, b.getLsbD 0]

/-- The byte that bits spell, the most significant first. -/
def byteOfBits (bits : List Bool) : Byte := BitVec.ofNat 8 (bits.foldl (fun n b => 2 * n + b.toNat) 0)

/-- R176: the bytes that bits make, eight to a byte and the most significant first; a partial byte behind them is no byte
yet (R181). -/
def bytesOfBits : List Bool → List Byte
  | b7 :: b6 :: b5 :: b4 :: b3 :: b2 :: b1 :: b0 :: rest =>
    byteOfBits [b7, b6, b5, b4, b3, b2, b1, b0] :: bytesOfBits rest
  | _ => []

/-! ### A peer frame on TK_DAT -/

/-- R90: a byte goes out as ten bits: a start bit, low, its data bits, and a stop bit, high. -/
def byteOnLine (b : Byte) : List Bool := false :: (byteBits b ++ [true])

/-- R90: bytes sent back to back: the start bit of the next follows the stop bit at once. -/
def bytesOnLine (bytes : List Byte) : List Bool := bytes.flatMap byteOnLine

/-- R90: the 160 bits of a frame. -/
def PeerFrame.lineBits (f : PeerFrame) : List Bool := bytesOnLine f.bytes

/-- R90: the level a station gives TK_DAT at bit number `n` from the begin of the frame it sends: the frame's bit, and
high, which is the line released, behind its last bit and where it sends no frame. -/
def datLevel (p : PeerLink) (n : Nat) : Bool :=
  match p.tx with
  | some f => f.lineBits.getD n true
  | none => true

/-- 05: a bit that any station sends low is low for all; `others` is what the others send. -/
def merged (own others : Bool) : Bool := own && others

/-- R92, R93: the number of the first bit whose readback differs from the bit sent; `others` are the levels that the
other stations give the line at these bits. -/
def firstMismatch : List Bool → List Bool → Option Nat
  | [], _ | _, [] => none
  | b :: own, o :: others => if merged b o ≠ b then some 0 else (firstMismatch own others).map (· + 1)

/-- R92, R93: the row that the end of a frame makes, sent while the other stations give the line these levels. -/
def sentRow (f : PeerFrame) (others : List Bool) : Instr :=
  if (firstMismatch f.lineBits others).isSome then .readbackMismatch else .peerFrameSent

/-! ### Reading a frame -/

/-- R95: one byte from its start bit, read low, to its stop bit, read high, with the bits behind it. -/
def readByte : List Bool → Option (Byte × List Bool)
  | false :: b7 :: b6 :: b5 :: b4 :: b3 :: b2 :: b1 :: b0 :: true :: rest =>
    some (byteOfBits [b7, b6, b5, b4, b3, b2, b1, b0], rest)
  | _ => none

/-- R95: so many bytes, each start bit at once behind the stop bit before it; none where the receiver abandons the
frame. -/
def readBytes : Nat → List Bool → Option (List Byte)
  | 0, _ => some []
  | n + 1, bits =>
    match readByte bits with
    | none => none
    | some (b, rest) => (readBytes n rest).map (b :: ·)

/-- R95, R97: the row that the bits read from the fall of a first start bit on make at a receiver. -/
def receivedRow (bits : List Bool) : Instr :=
  match readBytes 16 bits with
  | some bytes => .peerFrameReceived bytes
  | none => .receiverAbandonsFrame

/-! ### The DAC port and SDO -/

/-- R128, R198: the twenty bits of the word on DDAT, the most significant first. -/
def wordBits (w : BitVec 20) : List Bool := (List.range 20).map (fun i => w.getLsbD (19 - i))

/-- R176: the bits of the first `n` bytes on SDO, in the order shifted out. -/
def Port.sdoBits (p : Port) (filler n : Nat) : List Bool := (p.sdoBytes filler n).flatMap byteBits

end Sys2Proof.Machine
end

