-- ==== Sys2Proof/Decode.lean ====
section
/-! DEFINITION. Words and frames. The opcode table gives no row any bits, so `decodeTableWord` spells none. The frames
of the command port do have bytes (R176, R179): `commandFrame` writes the command of a frame, `readCommand` reads it, and
`readSpan` reads it from the bits on SDI. -/

namespace Sys2Proof

/-- The command that a word spells by the table's bits: no row of the table gives bits (log 31). -/
def decodeTableWord (_nbits _w : Nat) : Option Instr := none

/-- The command summary (10): the command of a code. -/
def commandOf (code : Nat) (payload : List Byte) : Option Instr :=
  match code with
  | 0x01 => some (.status payload)
  | 0x02 => some (.setup payload)
  | 0x03 => some (.hset payload)
  | 0x10 => some (.cue payload)
  | 0x11 => some (.flush payload)
  | 0x20 => some (.join payload)
  | 0x21 => some (.leave payload)
  | 0x22 => some (.arm payload)
  | 0x23 => some (.disarm payload)
  | 0x24 => some (.abort payload)
  | 0x25 => some (.clearFault payload)
  | 0x30 => some (.take payload)
  | 0x31 => some (.clearLoss payload)
  | 0x32 => some (.peers payload)
  | 0x40 => some (.alertSet payload)
  | 0x41 => some (.alertNext payload)
  | 0x42 => some (.alertDone payload)
  | 0x7E => some (.reset payload)
  | _ => none

/-- R176: the command of a frame: CMD, LEN, payload, CHK. -/
def commandFrame (code : Byte) (payload : List Byte) : List Byte :=
  code :: BitVec.ofNat 8 payload.length :: payload ++ [Machine.frameCheck code payload]

/-- R178, R179: what the port makes of the bytes it takes in up to the command's end; none where they are not a whole
command. -/
def readCommand (bytes : List Byte) : Option Instr :=
  match bytes with
  | code :: len :: rest =>
    if 64 < len.toNat then some (.lenAbove64 code len)
    else if rest.length ≠ len.toNat + 1 then none
    else
      let payload := rest.take len.toNat
      let check := rest.getD len.toNat 0#8
      if Machine.frameCheck code payload ≠ check then some (.badCheckFrame code payload check)
      else some ((commandOf code.toNat payload).getD (.unknownCommand code payload))
  | _ => none

/-! ### The bits on SDI -/

/-- R176, R178: how many bytes the command has, once its LEN byte has ended. -/
def commandLength (bytes : List Byte) : Option Nat :=
  match bytes with
  | _ :: len :: _ => some (if 64 < len.toNat then 2 else len.toNat + 3)
  | _ => none

/-- R176, R178: the bytes of the command, once it has ended; the bytes behind it are ignored. -/
def commandBytes (bytes : List Byte) : Option (List Byte) :=
  match commandLength bytes with
  | some n => if n ≤ bytes.length then some (bytes.take n) else none
  | none => none

/-- R176, R178, R179, R181: the row that the bits make which the rising edges of SCK have sampled on SDI, one bit to an
edge, in a span of CSN low: that of its command, or a command cut where CSN rises before the command has ended. -/
def readSpan (bits : List Bool) : Instr :=
  ((commandBytes (Machine.bytesOfBits bits)).bind readCommand).getD (.commandCut bits.length)

/-- R180, R182: the row that the rise of CSN makes so many rising edges of SCK behind the command's end, or the end of
the reply before it: the reply is complete with the last bit of its CRC byte, behind the filler bytes. -/
def replyRow (r : Machine.Reply) (filler edges : Nat) : Instr :=
  if 8 * (filler + r.frame.length) ≤ edges then .replyComplete else .replyCut

end Sys2Proof
end

