-- ==== Sys2Proof/Machine/Alert.lean ====
section
/-! DEFINITION. The Alert Unit: ALERT_SET, ALERT_NEXT, ALERT_DONE (09). -/

namespace Sys2Proof.Machine

/-- R172: the enables, the priorities and the threshold are replaced; pending flags and stack stay. -/
def applySettings (x : AlertSettings) (s : State) : State :=
  { s with alert := { s.alert with enable := x.enable, prio := x.prio, threshold := x.threshold } }

/-- R172: the ALERT_SET command as taken. -/
def takeAlertSet (payload : List Byte) (s : State) : State :=
  match parseAlertSet payload with
  | .error r => refuse r s
  | .ok x => answer .ok [] (applySettings x s)

/-- ALERT_SET (R172). -/
def execAlertSet (payload : List Byte) (s : State) : Host.Outcome State Fault Refusal :=
  serve (takeAlertSet payload) s

/-- R173: the selected cause's flag is cleared and its entry is pushed. -/
def AlertUnit.select (a : AlertUnit) (c : AlertCause) : AlertUnit :=
  { a with
    pending := a.pending &&& ~~~(BitVec.twoPow 14 c.num)
    stack := { cause := c, priority := a.priority c } :: a.stack }

/-- R173: the ALERT_NEXT command as taken. -/
def takeAlertNext (s : State) : State :=
  match s.alert.best with
  | none => answer .ok (u8 255 ++ u8 s.alert.stack.length) s
  | some c => answer .ok (u8 c.num ++ u8 (s.alert.stack.length + 1)) { s with alert := s.alert.select c }

/-- ALERT_NEXT (R173). -/
def execAlertNext (payload : List Byte) (s : State) : Host.Outcome State Fault Refusal :=
  serve (bare payload takeAlertNext) s

/-- R174: the ALERT_DONE command as taken. -/
def takeAlertDone (s : State) : State :=
  match s.alert.stack with
  | [] => answer .notActive [] s
  | e :: rest => answer .ok (u8 e.cause.num ++ u8 rest.length) { s with alert := { s.alert with stack := rest } }

/-- ALERT_DONE (R174). -/
def execAlertDone (payload : List Byte) (s : State) : Host.Outcome State Fault Refusal :=
  serve (bare payload takeAlertDone) s

end Sys2Proof.Machine
end

