-- ==== Sys2Proof/Machine/Output.lean ====
section
/-! DEFINITION. The output word of a sample (R126 to R129), what a sample has left due, and the sending of the word
once nothing of its sample is due any more (log 4). -/

namespace Sys2Proof.Machine

/-! ### The value and the word -/

/-- The entries of the active set, none for NONE (R126). -/
def activeEntries (y : Synth) : List HarmonicEntry :=
  match y.activeSet with
  | .none => []
  | .set n => (y.sets.getD n {}).entries

/-- The RMS factor of the active set in thousandths, 1000 for NONE (R131). -/
def activeFactor (y : Synth) : Nat :=
  match y.activeSet with
  | .none => 1000
  | .set n => (y.sets.getD n {}).factor

/-- R126: the sum of the harmonic terms in 1/10 000, to `sineBits`. -/
def harmonicSum (angle : Nat) : List HarmonicEntry → Int
  | [] => 0
  | e :: es => (e.amplitude : Int) * sine (e.order * angle + e.phase) + harmonicSum angle es

/-- R126: the sum of sin and the terms, in 1/10 000 and to `valueBits`. -/
def waveSum (angle : Nat) (es : List HarmonicEntry) : Int :=
  roundAway (10000 * sine angle + harmonicSum angle es) (2 ^ (Config.sineBits - Config.valueBits))

/-- R126: the output value, in units of which `Config.valueOne` make 0.1 % of the nominal peak. -/
def outputValue (y : Synth) (angle : Nat) : Int := y.envelope * waveSum angle (activeEntries y)

/-- A value whose magnitude exceeds `level` is replaced by `level` with its sign (R127). -/
def limitTo (level : Nat) (v : Int) : Int :=
  if v.natAbs ≤ level then v else if v < 0 then -(level : Int) else level

/-- R127, R135: the clamp, when active. -/
def clamped (y : Synth) (v : Int) : Int :=
  match y.clamp with
  | none => v
  | some level => limitTo level v

/-- R127: the clip level in value units. -/
def clipValue : Nat := Config.clipLevel * Config.valueOne

/-- R127: the word of a limited value. -/
def wordOf (v : Int) : BitVec 20 := BitVec.ofInt 20 (roundAway (v * Config.wordMax) clipValue)

/-- R129: the word is computed in RUN, and in FAULT before the stop completes. -/
def outputOn (s : State) : Bool :=
  decide (s.state = .run) || (decide (s.state = .fault) && !s.fault.stopComplete)

/-- R127: the span of the active cue is open: the cue is RUNNING. -/
def inSpan (s : State) : Bool :=
  match s.cue.active with
  | none => false
  | some a => decide (a.phase = .running)

/-- R127 to R129: the sample's word is formed and sent; a clipped sample in the span is counted, but not during a
stop. A clamp asked for behind the sample takes its level from this word (R135). -/
def sendWord (s : State) : State :=
  if outputOn s then
    let v := clamped s.synth (outputValue s.synth (waveAngle s))
    let w := limitTo clipValue v
    let counts := decide (v ≠ w) && inSpan s && !s.synth.stop
    { s with synth := { s.synth with
        word := wordOf w
        lastValue := w.natAbs
        clipped := satAdd Config.countMax s.synth.clipped counts.toNat
        clamp := if s.synth.clampAsked then some w.natAbs else s.synth.clamp
        clampAsked := false
        wordDue := false } }
  else
    { s with synth := { s.synth with word := 0, lastValue := 0, clampAsked := false, wordDue := false } }

/-! ### What a sample leaves due -/

/-- R22, R23: the last sample can be the start sample of a cue whose activation sample has been taken: its start angle,
if any, is reached on that sample's arc, a waveform angle under the given phase-step offset. A FREQ cue starts at its
epoch (R86). -/
def startsAt (s : State) (offset : Nat) (c : Cue) : Bool :=
  decide (c.kind ≠ .freq) &&
    (match c.startAngle with
     | none => true
     | some x => reached x (if c.angleRef = some .system then s.pll.sysAngle else waveAngleAt s offset) s.pll.arc)

/-- R22, R23: the start sample of the active cue has come. -/
def startDue (s : State) : Bool :=
  match s.cue.active with
  | none => false
  | some a => decide (a.phase = .pendingAngle) && !a.awaiting && startsAt s s.synth.stepOffset a.cue

/-- R25: the advance of the active cue has reached its nonzero duration. -/
def completionDue (s : State) : Bool :=
  match s.cue.active with
  | none => false
  | some a =>
    decide (a.phase = .running) &&
      (match a.cue.duration with
       | none => false
       | some n => decide (n ≠ 0) && decide (n * Config.halfCycle ≤ a.advance))

/-- The span of a RAMP in angle units (R36). -/
def rampSpan (c : Cue) : Nat := c.rampLength.getD 0 * Config.halfCycle

/-- R36: the progress of a RAMP has reached its ramp length and has not been marked complete. -/
def rampEndDue (s : State) : Bool :=
  match s.cue.active with
  | none => false
  | some a =>
    decide (a.phase = .running) && decide (a.cue.kind = .ramp) && !a.rampDone &&
      decide (rampSpan a.cue ≤ a.advance)

/-- Something of the present sample is still due. -/
def sampleBusy (s : State) : Bool :=
  closeDue s || rampEndDue s || s.synth.flickerDue || s.synth.clampEndDue || s.synth.stopDue || completionDue s
    || startDue s

/-- R126: the word is formed after every request made at its sample: it is sent once nothing of the sample is due. -/
def finishWord (s : State) : State :=
  if s.synth.wordDue && !sampleBusy s then sendWord s else s

end Sys2Proof.Machine
end

