-- ==== Sys2Proof/Machine/CueUnit.lean ====
section
/-! DEFINITION. The Cue Engine's steps: a cue's start and completion; CUE_START, RAMP_END, FLICKER_BOUNDARY (02). The row
CUE_COMPLETION is in Handover.lean, the commands CUE and FLUSH are in CueCommand.lean. -/

namespace Sys2Proof.Machine

/-- A later change of the active cue's execution state. -/
def mapActive (f : ActiveCue → ActiveCue) (s : State) : State :=
  { s with cue := { s.cue with active := s.cue.active.map f } }

/-! ### CUE_START -/

/-- R35: the jump of the envelope to A where the cue carries an amplitude. -/
def setLevel (c : Cue) (s : State) : State :=
  { s with synth := { s.synth with envelope := c.ampA.getD s.synth.envelope } }

/-- R34, R154: the span opens with the cue's start sample; the clipped count starts at 0 (R127). -/
def openSpan (c : Cue) (s : State) : State :=
  { s with
    synth := { s.synth with clipped := 0 }
    meas := { s.meas with
      span := some {
        kind := c.kind, check := c.check, tolerance := c.tolerance
        rampEnded := false, wholeCount := 0, record := {} }
      hc := { s.meas.hc with whole := s.meas.hcBegan, rampOver := false } } }

/-- R39: a phase-step offset after a step. -/
def stepBy (d : Int) (offset : Nat) : Nat := ((offset + d) % 3600).toNat

/-- R39, R131: the phase step; a delta of 0 makes no step. -/
def stepPhase (d : Int) (s : State) : State :=
  if d = 0 then s
  else
    { s with
      synth := { s.synth with stepOffset := stepBy d s.synth.stepOffset }
      meas := { s.meas with hc := { s.meas.hc with irregular := true } } }

/-- R40, R150: the FREQ cue's start sample is reported. -/
def markFreq (s : State) : State :=
  { s with meas := { s.meas with hc := { s.meas.hc with freqChange := true } } }

/-- R42, R43: the requests of the Switch Unit at a start sample: a deferred GAP end first, together with a GAP's
start as one coincident request. -/
def startSwitches (c : Cue) (s : State) : State :=
  let t := { s with cue := { s.cue with deferredGap := none } }
  match s.cue.deferredGap, (if c.kind = .gap then c.switchMode else none) with
  | none, none => t
  | none, some m => doSwitch (.gapStart m) t
  | some old, none => doSwitch (.gapEnd old) t
  | some old, some m => doSwitch (.coincident old m) t

/-- R34 to R44: the start requests of a cue of each kind. -/
def startRequests (c : Cue) (s : State) : State :=
  match c.kind with
  | .level | .gap => setLevel c s
  | .ramp => mapActive (fun a => { a with rampFrom := s.synth.envelope }) s
  | .phase => setLevel c (stepPhase (c.phaseDelta.getD 0) s)
  | .freq => setLevel c (markFreq s)
  | .flicker =>
    let t := setLevel c s
    { t with synth := { t.synth with
        flicker := some { a := c.ampA.getD 0, a2 := c.ampA2.getD 0, armed := false } } }
  | .harmonic =>
    let t := setLevel c s
    { t with synth := { t.synth with activeSet := c.harmonicSet.getD .none } }
  | .endRun => requestStop (mapActive (fun a => { a with stopRequested := true }) s)

/-- R21: the cue enters RUNNING at its start sample. -/
def enterRunning (s : State) : State :=
  mapActive (fun a => { a with
    phase := .running, startCycle := some s.group.runCycle, startAngle := some (waveAngle s), advance := 0 }) s

/-- R23, R24, R34: the active cue starts at the present sample. A duration-0 cue leaves the station free (R27). -/
def beginCue (a : ActiveCue) (s : State) : State :=
  let t := startRequests a.cue (startSwitches a.cue (openSpan a.cue (enterRunning s)))
  finishWord (judgeGate (if a.cue.duration = some 0 then lookAtHead true t else t))

/-- The start sample of the active cue, where it has come. -/
def startCue (s : State) : State :=
  match s.cue.active with
  | none => s
  | some a => if startDue s then beginCue a s else s

/-- CUE_START (R23). -/
def execCueStart (s : State) : Host.Outcome State Fault Refusal := .next (startCue s)

/-! ### The completion of a cue -/

/-- R42: a GAP starts at the present sample. -/
def gapStarts (s : State) : Bool :=
  match s.cue.active with
  | none => false
  | some b => decide (b.cue.kind = .gap) && startDue s

/-- R42: the switch part of a completing GAP's end: left to the start of a LOCAL GAP at the same sample, as one coincident
request with it, or requested. A fault entry between the two drops an end left so: whether it was made then is open in the
spec, and that it was not is the model's choice (log 25). -/
def endGap (mode : Option SwitchMode) (s : State) : State :=
  match mode with
  | none => s
  | some m =>
    if gapStarts s then { s with cue := { s.cue with deferredGap := some m } } else doSwitch (.gapEnd m) s

/-- R25, R27, R34: the completion sample: end requests, CUE_END with DONE, and the next step of a free station. -/
def completeCue (s : State) : State :=
  match s.cue.active with
  | none => s
  | some a =>
    if completionDue s then
      let t := if a.cue.kind = .flicker then flickerReturn a s else s
      let t := lookAtHead true (endCue .done t)
      let t := if a.cue.kind = .gap then endGap a.cue.switchMode t else t
      finishWord (judgeGate t)
    else s

/-! ### RAMP_END and FLICKER_BOUNDARY -/

/-- R36, R154: the ramp's progress is complete: the envelope is A and the Measurement Unit is told. -/
def endRamp (s : State) : State :=
  match s.cue.active with
  | none => s
  | some a =>
    if rampEndDue s then
      let t := setLevel a.cue (mapActive (fun b => { b with rampDone := true }) s)
      finishWord
        { t with meas := { t.meas with
            span := t.meas.span.map (fun sp => { sp with rampEnded := true })
            hc := { t.meas.hc with rampOver := t.meas.hc.rampOver || t.meas.hcBegan } } }
    else s

/-- RAMP_END (R36). -/
def execRampEnd (s : State) : Host.Outcome State Fault Refusal := .next (endRamp s)

/-- R37, R130: an interval boundary of the running FLICKER cue arms a change. -/
def armFlicker (s : State) : State :=
  { s with synth := { s.synth with flicker := s.synth.flicker.map (fun f => { f with armed := true }) } }

/-- FLICKER_BOUNDARY (R37). -/
def execFlickerBoundary (s : State) : Host.Outcome State Fault Refusal := .next (armFlicker s)

end Sys2Proof.Machine
end

