-- ==== Sys2Proof/Machine/FaultUnit.lean ====
section
/-! DEFINITION. The Fault Unit: ABORT, CLEAR_FAULT, TK_FLT_FALL, TK_FLT_RISE, FAULT_RECORD (06). -/

namespace Sys2Proof.Machine

/-- R109: the ABORT command as taken. -/
def takeAbort (s : State) : State :=
  if s.state = .config then answer .state [] s else answer .ok [] (passCause .hostAbort s)

/-- ABORT (R109). -/
def execAbort (payload : List Byte) (s : State) : Host.Outcome State Fault Refusal :=
  serve (bare payload takeAbort) s

/-- R118: the episode's FAULT record, where it has not yet been offered. -/
def offerOutstanding (s : State) : State := if s.fault.offered then s else offerFaultRecord s

/-- R121, R122: an accepted CLEAR_FAULT; the station goes on to ENROLL where the line is then high. -/
def clearFault (s : State) : State :=
  let t := offerOutstanding s
  recoverIfHigh (clearRoster { t with state := .recover, fault := { t.fault with fltLow := false } })

/-- R121: the CLEAR_FAULT command as taken. -/
def takeClearFault (s : State) : State :=
  if s.state = .fault ∧ s.fault.stopComplete = true then
    answer .ok (u8 s.fault.secondary) (clearFault s)
  else answer .state [] s

/-- CLEAR_FAULT (R121). -/
def execClearFault (payload : List Byte) (s : State) : Host.Outcome State Fault Refusal :=
  serve (bare payload takeClearFault) s

def setFltLine (high : Bool) (s : State) : State := { s with lines := { s.lines with fltHigh := high } }

/-- R110: the line is seen low: GROUP_FAULT in ARMED and RUN, no cause elsewhere. -/
def seeFltLow (s : State) : State :=
  let t := setFltLine false s
  if s.state = .armed ∨ s.state = .run then passCause .groupFault t else t

/-- TK_FLT_FALL (R110). -/
def execTkFltFall (s : State) : Host.Outcome State Fault Refusal := .next (seeFltLow s)

/-- R122, R53: the line is released by the other stations. -/
def seeFltHigh (s : State) : State := judgeGate (recoverIfHigh (setFltLine true s))

/-- TK_FLT_RISE (R122). -/
def execTkFltRise (s : State) : Host.Outcome State Fault Refusal := .next (seeFltHigh s)

/-- R118: the second own epoch after the onset has come and the record is outstanding. -/
def recordDue (s : State) : Bool :=
  decide (s.state = .fault) && decide (s.fault.epochs = 2) && !s.fault.offered

def recordStep (s : State) : State := if recordDue s then offerFaultRecord s else s

/-- FAULT_RECORD (R118). -/
def execFaultRecord (s : State) : Host.Outcome State Fault Refusal := .next (recordStep s)

end Sys2Proof.Machine
end

