-- ==== Sys2Proof/Machine/Group.lean ====
section
/-! DEFINITION. The Group Controller: JOIN, LEAVE, ARM, DISARM, GATE_TIMEOUT, TAG_MISMATCH, TK_GATE_CHANGE,
GATE_PULSE_END (03). The row GATE_OPENING is in Handover.lean. -/

namespace Sys2Proof.Machine

/-! ### JOIN and LEAVE -/

/-- R72, R88: the Phase Lock Unit at JOIN and after LEAVE: SEEKING, accumulator 0, nominal frequency. -/
def freshPhase (setup : Setup) : PhaseLock := { runFreq := setup.nominal }

/-- R159: the Measurement Unit at JOIN. -/
def startedMeas : Meas := { running := true, v := { settle := 3 }, i := { settle := 3 } }

/-- R48: an accepted JOIN. -/
def joinGroup (s : State) : State :=
  { s with
    state := .enroll
    pll := freshPhase s.setup
    meas := startedMeas
    peer := { s.peer with rx := .listening } }

/-- R48: the JOIN command as taken. -/
def takeJoin (s : State) : State :=
  if s.state = .config then answer .ok [] (joinGroup s) else answer .state [] s

/-- JOIN (R48). -/
def execJoin (payload : List Byte) (s : State) : Host.Outcome State Fault Refusal :=
  serve (bare payload takeJoin) s

/-- R49, R88, R106, R107, R159: an accepted LEAVE. -/
def leaveGroup (s : State) : State :=
  let t := leaveGate s
  raiseIf (decide (s.pll.sync = .locked)) .syncChange
    { t with
      state := .config
      pll := freshPhase s.setup
      meas := {}
      peer := {}
      fault := { t.fault with cause := none }
      synth := { t.synth with clampAsked := false, wordDue := false } }

/-- R49: the LEAVE command as taken. -/
def takeLeave (s : State) : State :=
  if s.state = .enroll ∨ s.state = .recover then answer .ok [] (leaveGroup s) else answer .state [] s

/-- LEAVE (R49). -/
def execLeave (payload : List Byte) (s : State) : Host.Outcome State Fault Refusal :=
  serve (bare payload takeLeave) s

/-! ### ARM and DISARM -/

/-- R50 order 7: a present entry of another station shows another group size or nominal frequency. -/
def mismatchSeen (s : State) : Bool :=
  s.others.any (fun n => (s.entry n).shows (fun f =>
    decide (f.groupSize ≠ s.setup.groupSize) || decide (f.nominal ≠ s.setup.nominal)))

/-- R50: the first condition that refuses an ARM. -/
def armRefusal (s : State) : Option Result :=
  if s.state ≠ .enroll then some .state
  else if s.pll.sync ≠ .locked then some .notLocked
  else if s.cue.queue.isEmpty then some .empty
  else if headGate s = some .localCue then some .headLocal
  else if fltSeenHigh s = false then some .lineFault
  else if runSeen s then some .groupBusy
  else if mismatchSeen s then some .mismatch
  else none

/-- R51: an accepted ARM: the gate timer is 0 and stopped, the tag counts are 0, readiness is judged. -/
def armGate (s : State) : State :=
  judgeGate
    { s with
      state := .armed
      group := { s.group with
        drive := .heldLow, pulse := false, timer := 0, timerOn := false, timeoutDue := false
        tagCounts := zeroCounts, tagDue := 0 } }

/-- R50, R51: the ARM command as taken. -/
def takeArm (s : State) : State :=
  match armRefusal s with
  | some r => answer r [] s
  | none => answer .ok [] (armGate s)

/-- ARM (R50). -/
def execArm (payload : List Byte) (s : State) : Host.Outcome State Fault Refusal :=
  serve (bare payload takeArm) s

/-- R52: an accepted DISARM. -/
def disarmGate (s : State) : State :=
  let t := leaveGate s
  { t with state := .enroll, group := { t.group with timer := 0 } }

/-- R52: the DISARM command as taken. -/
def takeDisarm (s : State) : State :=
  if s.state = .armed then answer .ok [] (disarmGate s) else answer .state [] s

/-- DISARM (R52). -/
def execDisarm (payload : List Byte) (s : State) : Host.Outcome State Fault Refusal :=
  serve (bare payload takeDisarm) s

/-! ### GATE_TIMEOUT and TAG_MISMATCH -/

/-- R60, R108: the gate timer has reached the gate limit: GATE_TIMEOUT is passed and judged against the state it finds. -/
def timeoutStep (s : State) : State :=
  if s.group.timeoutDue then
    passCause .gateTimeout { s with group := { s.group with timeoutDue := false } }
  else s

/-- GATE_TIMEOUT (R60). -/
def execGateTimeout (s : State) : Host.Outcome State Fault Refusal := .next (timeoutStep s)

/-- R61, R108: the tag mismatch count of a station has reached 2: TAG_MISMATCH is passed and judged against the state it
finds. -/
def tagStep (n : Fin 8) (s : State) : State :=
  if s.group.tagDue.getLsbD n.val then
    passCause .tagMismatch
      { s with group := { s.group with tagDue := s.group.tagDue &&& ~~~(BitVec.twoPow 8 n.val) } }
  else s

/-- TAG_MISMATCH (R61). -/
def execTagMismatch (n : Fin 8) (s : State) : Host.Outcome State Fault Refusal := .next (tagStep n s)

/-! ### The line and its openings -/

/-- TK_GATE_CHANGE (R57): the other stations' hold on the line changes; a wait goes on as the line then stands. -/
def execTkGateChange (high : Bool) (s : State) : Host.Outcome State Fault Refusal :=
  .next { s with lines := { s.lines with gateHigh := high } }

/-- R57: a station at the gate that waits sees the line high. -/
def openingSeen (s : State) : Bool := atGate s && waiting s && gateSeenHigh s

/-- R58: the wait ends, the timer stops, the gate pulse begins. -/
def beginPulse (s : State) : State := { s with group := { s.group with timerOn := false, pulse := true } }

/-- R63: the stations that enter the run: the station itself, and each other whose present entry shows ARMED. -/
def entersRun (s : State) (n : Fin 8) : Bool :=
  decide (n = s.straps.number) || (s.entry n).shows (fun f => decide (f.state = .armed))

/-- R63: the roster is fixed and its members are marked. -/
def fixRoster (s : State) : State :=
  { s with peer := { s.peer with
      table := s.peer.table.mapIdx (fun i e => { e with member := entersRun s (Fin.ofNat 8 i) }) } }

/-- R62 step 5, R131, R135, R139, R153: the begin-run requests wait for the first sample of RUN; the clamp is
inactive, the overload run 0 and the share episodes ended. -/
def beginOutput (s : State) : State :=
  endShares { s with
    synth := { s.synth with runStart := true, clamp := none, clampAsked := false, clampEndDue := false }
    meas := { s.meas with overloadRun := 0, overloadDue := false, toleranceDue := false } }

/-- R62 steps 1 to 5, R64, R68: a run opens. -/
def openRun (s : State) : State :=
  let t := fixRoster { s with
    state := .run, group := { s.group with runCycle := 0, endedAtOpen := s.cue.ended } }
  beginOutput (raise .runChange (offer (.runStart t.roster ((headTag t).getD 0)) t))

/-- R58: the pulse ends and readiness is judged again; a ready station begins a new wait at 0. -/
def endPulse (s : State) : State :=
  if s.group.pulse then
    judgeGate { s with group := { s.group with pulse := false, drive := .heldLow } }
  else s

/-- GATE_PULSE_END (R58). -/
def execGatePulseEnd (s : State) : Host.Outcome State Fault Refusal := .next (endPulse s)

end Sys2Proof.Machine
end

