-- ==== Sys2Proof/Machine/Measure.lean ====
section
/-! DEFINITION. The Measurement Unit: decimators, half-cycles, the check, overload and loss; DECIMATOR_RESULT,
CLAMP_END, OVERLOAD, OUT_OF_TOLERANCE (08). -/

namespace Sys2Proof.Machine

/-! ### The decimators (R145 to R148) -/

/-- The triangle number that counts pairs below a bound, 0 for a negative argument. -/
def pairsBelow (x : Int) : Int := if x < 0 then 0 else (x + 1) * (x + 2) / 2

/-- R145: the weight of the bit `j` places before the newest: the number of ways of writing `j` as the sum of three
whole numbers each from 0 to R - 1. -/
def combWeight (ratio j : Nat) : Int :=
  pairsBelow j - 3 * pairsBelow ((j : Int) - ratio) + 3 * pairsBelow ((j : Int) - 2 * ratio)
    - pairsBelow ((j : Int) - 3 * ratio)

/-- The weights of the bits that are one, the newest bit first, from place `j` on. -/
def weightedOnes (ratio : Nat) : Nat → List Bool → Int
  | _, [] => 0
  | j, b :: bs => (if b then combWeight ratio j else 0) + weightedOnes ratio (j + 1) bs

/-- R145: the result of a window: 32 767 x (2 x weighted density - 1), a half away from zero. -/
def combResult (ratio : Nat) (window : List Bool) : Int :=
  roundAway (32767 * (2 * weightedOnes ratio 0 window - (ratio ^ 3 : Nat))) (ratio ^ 3)

/-- R145: the window of 3R - 2 bits after the bits of one interval, oldest first, have come in. -/
def shiftWindow (ratio : Nat) (bits window : List Bool) : List Bool :=
  (bits.reverse ++ window).take (3 * ratio - 2)

/-- R146: the interval's input held one level. -/
def constantBits (bits : List Bool) : Bool := bits.all id || bits.all (fun b => !b)

/-- R147: a current result exceeds the limit of the setup. -/
def exceedsLimit (limit : Nat) (r : Int) : Bool := decide (limit * 32767 < r.natAbs * 400)

def getChannel (c : Channel) (m : Meas) : ChannelState :=
  match c with
  | .voltage => m.v
  | .current => m.i

def setChannel (c : Channel) (x : ChannelState) (s : State) : State :=
  match c with
  | .voltage => { s with meas := { s.meas with v := x } }
  | .current => { s with meas := { s.meas with i := x } }

/-- R135: the clamp ends at the crossing; the sample's word is computed without it. -/
def endClamp (s : State) : State :=
  if s.synth.clampEndDue then
    finishWord { s with synth := { s.synth with clamp := none, clampEndDue := false } }
  else s

/-- R135: the clamp request: carried out while the output is computed; an active clamp keeps its level. A clamp whose
end is due at the present crossing ends first: the crossing has come first. The level is that of the last word: where
the present sample's is still to be sent, the clamp waits for it (log 34). -/
def requestClamp (s : State) : State :=
  let s := endClamp s
  if outputOn s && s.synth.clamp.isNone then
    if s.synth.wordDue then { s with synth := { s.synth with clampAsked := true } }
    else { s with synth := { s.synth with clamp := some s.synth.lastValue } }
  else s

/-- R153: the first settled current result of a half-cycle that exceeds the limit marks it limited and asks for the
clamp. -/
def judgeCurrent (c : Channel) (r : Int) (s : State) : State :=
  if c = .current ∧ exceedsLimit s.setup.currentLimit r = true ∧ s.meas.hc.limited = false then
    requestClamp { s with meas := { s.meas with hc := { s.meas.hc with limited := true } } }
  else s

/-- R148, R149: a result the channel produced: discarded while it settles, else accumulated and judged. -/
def takeResult (c : Channel) (window : List Bool) (r : Int) (s : State) : State :=
  let x := getChannel c s.meas
  if x.settle = 0 then
    judgeCurrent c r (setChannel c
      { x with window := window, produced := x.produced + 1, settled := x.settled + 1
               sumSq := x.sumSq + r.natAbs * r.natAbs } s)
  else
    setChannel c
      { x with window := window, produced := x.produced + 1, settle := x.settle - 1
               discarded := x.discarded + 1 } s

/-- R145, R146: one decimation interval of a channel. An interval is `ratio` edges of MCLK; anything else is none
(log 21). -/
def decimate (c : Channel) (bits : List Bool) (s : State) : State :=
  if s.meas.running ∧ bits.length = s.setup.ratio then
    let x := getChannel c s.meas
    let window := shiftWindow s.setup.ratio bits x.window
    if constantBits bits then setChannel c { x with window := window, settle := 3 } s
    else takeResult c window (combResult s.setup.ratio window) s
  else s

/-- DECIMATOR_RESULT (R145). -/
def execDecimatorResult (c : Channel) (bits : List Bool) (s : State) : Host.Outcome State Fault Refusal :=
  .next (decimate c bits s)

/-- CLAMP_END (R135). -/
def execClampEnd (s : State) : Host.Outcome State Fault Refusal := .next (endClamp s)

/-! ### The close of a half-cycle (R149 to R158) -/

/-- R151: V RMS from the settled results: root mean square x 2828.427 / 32 767, at most 2000. -/
def rmsV (x : ChannelState) : Nat :=
  min 2000 (roundSqrt (x.sumSq * 2828427 ^ 2) (x.settled * (32767 * 1000) ^ 2))

/-- R151: I RMS: root mean square x 5656.854 / 32 767, at most 4000. -/
def rmsI (x : ChannelState) : Nat :=
  min 4000 (roundSqrt (x.sumSq * 5656854 ^ 2) (x.settled * (32767 * 1000) ^ 2))

/-- R150: lost: a channel produced no result; an empty half-cycle is not lost. -/
def halfLost (empty : Bool) (m : Meas) : Bool :=
  !empty && (decide (m.v.produced = 0) || decide (m.i.produced = 0))

/-- R150: settled: neither lost nor unsettled nor empty. -/
def halfSettled (empty : Bool) (m : Meas) : Bool :=
  !empty && !halfLost empty m && decide (m.v.discarded = 0) && decide (m.i.discarded = 0)

/-- R151: the held values are set. Every half-cycle but an empty one sets the held limiting flag, also an unsettled or
lost one before the first settled half-cycle since JOIN, up to whose close R151 says as well that the flag is clear:
that the first of the two holds there is the model's choice (log 45). -/
def setHeld (empty settled : Bool) (s : State) : State :=
  if empty then s
  else
    { s with meas := { s.meas with
        heldV := if settled then some (rmsV s.meas.v) else none
        heldI := if settled then some (rmsI s.meas.i) else none
        heldLimiting := s.meas.hc.limited } }

/-- R154 condition 3: the kind admits a check of the half-cycle. -/
def kindChecked (k : CueKind) (rampOver : Bool) : Bool :=
  match k with
  | .level | .gap | .phase | .freq | .harmonic => true
  | .ramp => rampOver
  | .flicker | .endRun => false

/-- R155: the expected V RMS. -/
def expectedV (s : State) : Nat :=
  if s.sw.sw0 then (2 * (s.synth.envelope * activeFactor s.synth) + 1000) / 2000 else 0

/-- R154: the half-cycle that closes is checked; `number` counts the half-cycles wholly within the span. -/
def isChecked (sp : Span) (hc : HalfCycle) (number skip : Nat) (settled : Bool) : Bool :=
  hc.whole && sp.check && kindChecked sp.kind hc.rampOver && decide (skip < number) && settled &&
    !hc.irregular && !hc.limited && !hc.switchChange && !hc.freqChange

/-- R156: the worst deviation after one more deviation. -/
def worseOf (w : Option Int) (d : Int) : Option Int :=
  match w with
  | none => some d
  | some x => if x.natAbs < d.natAbs then some d else some x

def minOpt (o : Option Nat) (v : Nat) : Option Nat := some (match o with | none => v | some x => min x v)

def maxOpt (o : Option Nat) (v : Nat) : Option Nat := some (match o with | none => v | some x => max x v)

/-- R156: the limited count and the minimum and maximum. -/
def chargeRecord (hc : HalfCycle) (settled : Bool) (v : Nat) (r : CheckRecord) : CheckRecord :=
  { r with
    limited := satAdd Config.countMax r.limited hc.limited.toNat
    minV := if settled then minOpt r.minV v else r.minV
    maxV := if settled then maxOpt r.maxV v else r.maxV }

/-- R155: the deviation is a miss. -/
def isMiss (tolerance : Nat) (d : Int) : Bool := decide (tolerance < d.natAbs)

/-- R156: a check's part in the record. -/
def checkRecord (miss : Bool) (d : Int) (r : CheckRecord) : CheckRecord :=
  { r with
    checked := satAdd Config.countMax r.checked 1
    missed := satAdd Config.countMax r.missed miss.toNat
    worst := worseOf r.worst d }

/-- R157: the miss brings the count to the miss limit in RUN. -/
def limitReached (s : State) (miss : Bool) (missed : Nat) : Bool :=
  miss && decide (s.setup.missLimit ≠ 0) && decide (missed = s.setup.missLimit) && decide (s.state = .run)

/-- R152 step 2, R154 to R157: the half-cycle is charged to the open span and, where it is to be, checked. -/
def chargeSpan (settled : Bool) (v : Nat) (s : State) : State :=
  match s.meas.span with
  | none => s
  | some sp =>
    let number := sp.wholeCount + s.meas.hc.whole.toNat
    let r := chargeRecord s.meas.hc settled v sp.record
    if isChecked sp s.meas.hc number s.setup.checkSkip settled then
      let d : Int := (v : Int) - expectedV s
      let miss := isMiss (sp.tolerance.getD s.setup.tolerance) d
      let r := checkRecord miss d r
      raiseIf miss .tolMiss
        { s with meas := { s.meas with
            span := some { sp with wholeCount := number, record := r }
            toleranceDue := s.meas.toleranceDue || limitReached s miss r.missed } }
    else
      { s with meas := { s.meas with span := some { sp with wholeCount := number, record := r } } }

/-- R152: the station counts as in RUN for the later steps of a close while no cause of the close has been reached
(log 22). -/
def runAtClose (s : State) : Bool :=
  decide (s.state = .run) && !s.meas.overloadDue && !s.meas.toleranceDue

/-- R153: the overload run. -/
def countOverload (empty : Bool) (s : State) : State :=
  if empty || !runAtClose s then s
  else if s.meas.hc.limited then
    let n := min s.setup.limitHold (s.meas.overloadRun + 1)
    { s with meas := { s.meas with overloadRun := n, overloadDue := decide (s.setup.limitHold ≤ n) } }
  else { s with meas := { s.meas with overloadRun := 0 } }

def setLost (b : Bool) (s : State) : State := { s with meas := { s.meas with lost := b } }

/-- R158: the loss judgement; MEAS_LOST in RUN, MEAS_CHANGE at a change of the indicator elsewhere. -/
def judgeLoss (empty lost : Bool) (s : State) : State :=
  if empty then s
  else if lost then
    if runAtClose s then { s with meas := { s.meas with lost := true, lossDue := true } }
    else raiseIf (!s.meas.lost) .measChange (setLost true s)
  else raiseIf (s.meas.lost && !runAtClose s) .measChange (setLost false s)

/-- R158: MEAS_LOST, reached at the close of a half-cycle, is passed. -/
def passLoss (s : State) : State :=
  if s.meas.lossDue then passCause .measLost { s with meas := { s.meas with lossDue := false } } else s

/-- R148, R158: a channel at the begin of a half-cycle; one that gave no result in a lost half-cycle settles again. R148
speaks of any half-cycle without a result and R158 of a lost one alone: an EMPTY half-cycle, which R150 does not count as
lost, restarts no settling here, and that is the model's choice (log 44). -/
def freshChannel (lost : Bool) (x : ChannelState) : ChannelState :=
  { x with
    settle := if lost && decide (x.produced = 0) then 3 else x.settle
    produced := 0, discarded := 0, settled := 0, sumSq := 0 }

/-- R149: the next half-cycle begins. A switch change reported at the present sample marks it also when an empty
half-cycle lay between them on the arc (R144, R150). -/
def beginHalf (lost : Bool) (s : State) : State :=
  { s with meas := { s.meas with
      v := freshChannel lost s.meas.v
      i := freshChannel lost s.meas.i
      hcBegan := true
      hc := {
        switchChange := s.meas.hcBegan && s.meas.hc.switchChange
        whole := s.meas.span.isSome
        rampOver := (match s.meas.span with | some sp => sp.rampEnded | none => false) } } }

/-- R150: an empty half-cycle is irregular. -/
def markEmpty (empty : Bool) (s : State) : State :=
  if empty then { s with meas := { s.meas with hc := { s.meas.hc with irregular := true } } } else s

/-- R152: the close of a half-cycle, in its order. The next half-cycle has begun when a MEAS_LOST of the close makes its
entry (`passLoss`): what that entry changes at this sample belongs to the half-cycle that begins (R150). -/
def closeHalf (empty : Bool) (s : State) : State :=
  let s := markEmpty empty s
  let lost := halfLost empty s.meas
  let settled := halfSettled empty s.meas
  judgeLoss empty lost
    (beginHalf lost
      (countOverload empty
        (chargeSpan settled (rmsV s.meas.v) (setHeld empty settled s))))

/-- R149: further crossings on one arc close empty half-cycles. -/
def closeEmpties : Nat → State → State
  | 0, s => s
  | n + 1, s => closeEmpties n (closeHalf true s)

/-- R149: one half-cycle closes at each crossing on the arc. -/
def closeHalves (count : Nat) (s : State) : State :=
  match count with
  | 0 => s
  | n + 1 => closeEmpties n (closeHalf false s)

/-! ### OVERLOAD and OUT_OF_TOLERANCE -/

/-- R153: the overload run has reached the limit hold: OVERLOAD is passed. -/
def passOverload (s : State) : State :=
  if s.meas.overloadDue then
    passCause .overload { s with meas := { s.meas with overloadDue := false } }
  else s

/-- OVERLOAD (R153). -/
def execOverload (s : State) : Host.Outcome State Fault Refusal := .next (passOverload s)

/-- R157: the miss count has reached the miss limit: OUT_OF_TOLERANCE is passed. -/
def passTolerance (s : State) : State :=
  if s.meas.toleranceDue then
    passCause .outOfTolerance { s with meas := { s.meas with toleranceDue := false } }
  else s

/-- OUT_OF_TOLERANCE (R157). -/
def execOutOfTolerance (s : State) : Host.Outcome State Fault Refusal := .next (passTolerance s)

end Sys2Proof.Machine
end

