-- ==== Sys2Proof/Machine/Peer.lean ====
section
/-! DEFINITION. The Peer Link Unit: filing frames, ageing, the share check; PEER_FRAME_SENT, READBACK_MISMATCH,
PEER_FRAME_RECEIVED, RECEIVER_ABANDONS_FRAME, PEER_ABSENT, SHARE_IMBALANCE and the command PEERS (05). -/

namespace Sys2Proof.Machine

/-! ### Absence (R99, R100) -/

/-- R100: the entry as it is once absent; the frame fields and the roster mark are kept. -/
def PeerEntry.absent (e : PeerEntry) : PeerEntry :=
  { e with present := false, mismatch := false, shareRun := 0, shareReported := false, shared := none }

/-- R100: what follows by the station's state and the entry's roster mark; in FAULT a roster member's absence is also
a secondary PEER_LOST (R112). -/
def reportAbsence (n : Fin 8) (member : Bool) (s : State) : State :=
  let t := offer (.peerAbsent n) s
  if s.state = .run ∧ member = true then passCause .peerLost t
  else
    let u := raise .peerChange t
    if s.state = .fault ∧ member = true then passCause .peerLost u else u

/-- R100: an entry becomes absent; the own entry does so without record or cause. -/
def becomeAbsent (n : Fin 8) (s : State) : State :=
  let e := s.entry n
  let t := s.setEntry n e.absent
  if n = s.straps.number then t else judgeGate (reportAbsence n e.member t)

/-- R99: the entry's missed count has reached 3 while it is present. -/
def absenceDue (n : Fin 8) (s : State) : Bool :=
  (s.entry n).present && decide (3 ≤ (s.entry n).missed)

def absentStep (n : Fin 8) (s : State) : State := if absenceDue n s then becomeAbsent n s else s

/-- PEER_ABSENT (R100). -/
def execPeerAbsent (n : Fin 8) (s : State) : Host.Outcome State Fault Refusal := .next (absentStep n s)

/-- R99: one entry at an own epoch. -/
def PeerEntry.age (e : PeerEntry) : PeerEntry :=
  if e.present then
    { e with missed := if e.heard then 0 else min 3 (e.missed + 1), heard := false }
  else { e with heard := false }

/-- R99: the table ages at an own epoch. -/
def agePeers (s : State) : State :=
  { s with peer := { s.peer with table := s.peer.table.map PeerEntry.age } }

/-! ### Filing a frame (R97, R101, R102) -/

/-- R97 step 1: the frame is copied and the entry is present and heard. -/
def PeerEntry.file (f : PeerFrame) (e : PeerEntry) : PeerEntry :=
  { e with frame := some f, heard := true, present := true, missed := 0 }

/-- R97 step 1, R101: filing, with the arrival of an absent entry. -/
def copyFrame (n : Fin 8) (f : PeerFrame) (s : State) : State :=
  let e := s.entry n
  let t := s.setEntry n (e.file f)
  if e.present then t else raise .peerChange (offer (.peerArrived n) t)

/-- R102: the frame's setup differs from the station's own. -/
def setupDiffers (f : PeerFrame) (s : State) : Bool :=
  decide (f.groupSize ≠ s.setup.groupSize) || decide (f.nominal ≠ s.setup.nominal)

/-- R102: the setup judgement of an entry. -/
def judgeSetup (n : Fin 8) (f : PeerFrame) (s : State) : State :=
  let e := s.entry n
  if setupDiffers f s then
    if e.mismatch then s
    else raise .setupMismatch
      (offer (.peerMismatch n f.groupSize f.nominal) (s.setEntry n { e with mismatch := true }))
  else s.setEntry n { e with mismatch := false }

/-- R61: the tag mismatch count of a peer after one of its frames, at the gate. -/
def nextCount (s : State) (member : Bool) (f : PeerFrame) (count : Nat) : Nat :=
  if s.state = .run then
    if member then (if otherTag (headTag s) f then min 2 (count + 1) else 0) else count
  else if f.state = .armed ∧ otherTag (headTag s) f = true then min 2 (count + 1)
  else 0

/-- R61: a count as updated; one that reaches 2 leaves a TAG_MISMATCH to be passed. -/
def setTagCount (n : Fin 8) (count : Nat) (s : State) : State :=
  { s with group := { s.group with
      tagCounts := s.group.tagCounts.set n.val count
      tagDue := if count = 2 then s.group.tagDue ||| BitVec.twoPow 8 n.val else s.group.tagDue } }

/-- R61: the tag mismatch count is updated while the station is at the gate. -/
def countTag (n : Fin 8) (f : PeerFrame) (s : State) : State :=
  if atGate s then setTagCount n (nextCount s (s.entry n).member f (s.group.tagCounts.getD n.val 0)) s else s

/-- R120: the frame names an origin: it shows FAULT with a cause other than GROUP_FAULT. -/
def showsOrigin (f : PeerFrame) : Bool :=
  decide (f.state = .fault) && f.cause.isSome && decide (f.cause ≠ some .groupFault)

/-- R120: the lower of the origin so far, 255 for none, and a station number. -/
def lowerOrigin (o : Option (Fin 8)) (n : Fin 8) : Option (Fin 8) :=
  match o with
  | none => some n
  | some m => if n < m then some n else some m

/-- R97 step 4, R120: the frame is handed to the Fault Unit. -/
def nameOrigin (n : Fin 8) (f : PeerFrame) (s : State) : State :=
  if s.state = .fault ∧ s.fault.cause = some .groupFault ∧ s.fault.offered = false ∧ showsOrigin f = true then
    { s with fault := { s.fault with origin := lowerOrigin s.fault.origin n } }
  else s

/-- R97: an accepted frame; an absence due from the epoch before it comes first (R99). -/
def fileFrame (f : PeerFrame) (s : State) : State :=
  let n := f.number
  nameOrigin n f (judgeGate (countTag n f (judgeSetup n f (copyFrame n f (absentStep n s)))))

/-! ### The receiver and the transmitter -/

/-- R95: the receiver reads the line: it runs and no own frame is being sent. -/
def receives (s : State) : Bool :=
  decide (s.peer.rx = .listening) || decide (s.peer.rx = .waitIdle)

def setReceiver (r : Receiver) (s : State) : State := { s with peer := { s.peer with rx := r } }

/-- R96, R97: sixteen bytes are judged; a dropped frame changes nothing in the table. -/
def receiveFrame (bytes : List Byte) (s : State) : State :=
  if receives s then
    let t := setReceiver .listening s
    match readFrame bytes with
    | none => t
    | some f => if f.number = s.straps.number then t else fileFrame f t
  else s

/-- PEER_FRAME_RECEIVED (R97). -/
def execPeerFrameReceived (bytes : List Byte) (s : State) : Host.Outcome State Fault Refusal :=
  .next (receiveFrame bytes s)

/-- RECEIVER_ABANDONS_FRAME (R95): the frame in hand is gone, and ten bit times of high line come first. -/
def execReceiverAbandonsFrame (s : State) : Host.Outcome State Fault Refusal :=
  .next (if receives s then setReceiver .waitIdle s else s)

/-- R92: the own frame went out as sent: the own entry is refreshed. -/
def frameSent (s : State) : State :=
  match s.peer.tx with
  | none => s
  | some f =>
    let t := { s with peer := { s.peer with tx := none, rx := .waitIdle } }
    t.setEntry s.straps.number ((s.entry s.straps.number).file f)

/-- PEER_FRAME_SENT (R92). -/
def execPeerFrameSent (s : State) : Host.Outcome State Fault Refusal := .next (frameSent s)

/-- R93: a readback mismatch ends the frame, bars the slot and passes SLOT_CLASH. -/
def readbackFails (s : State) : State :=
  match s.peer.tx with
  | none => s
  | some _ =>
    passCause .slotClash { s with peer := { s.peer with tx := none, rx := .waitIdle, barred := true } }

/-- READBACK_MISMATCH (R93). -/
def execReadbackMismatch (s : State) : Host.Outcome State Fault Refusal := .next (readbackFails s)

/-! ### The share check (R103, R104) -/

/-- R103: the entry is of the station's own phase, which is L1, L2 or L3. -/
def samePhase (s : State) (f : PeerFrame) : Bool :=
  decide (f.phase = s.straps.phase) && decide (s.straps.phase ≠ .any)

/-- R103: the two currents, where both are present and differ by more than the limit. -/
def shareOver (s : State) (f : PeerFrame) : Option (Nat × Nat) :=
  match s.meas.heldI, f.iRms with
  | some own, some peer =>
    if s.setup.shareLimit < max own peer - min own peer then some (own, peer) else none
  | _, _ => none

/-- R103, R104: one comparison. -/
def PeerEntry.compare (excess : Option (Nat × Nat)) (e : PeerEntry) : PeerEntry :=
  match excess with
  | some pair =>
    { e with shareRun := min 10 (e.shareRun + 1)
             shared := if e.shareReported then e.shared else some pair }
  | none => { e with shareRun := 0, shareReported := false, shared := none }

/-- R103: the entry of one station at an own epoch. -/
def sharedEntry (s : State) (n : Fin 8) (e : PeerEntry) : PeerEntry :=
  if e.present && decide (n ≠ s.straps.number) then
    match e.frame with
    | some f => if samePhase s f then e.compare (shareOver s f) else e
    | none => e
  else e

/-- R103: the check at an own epoch in RUN, when the share limit is not 0. -/
def checkShares (s : State) : State :=
  if s.state = .run ∧ s.setup.shareLimit ≠ 0 then
    { s with peer := { s.peer with
        table := s.peer.table.mapIdx (fun i e => sharedEntry s (Fin.ofNat 8 i) e) } }
  else s

/-- R103: the share run count has reached 10 in an unreported episode, in RUN. -/
def shareDue (n : Fin 8) (s : State) : Bool :=
  decide (s.state = .run) && decide ((s.entry n).shareRun = 10) && !(s.entry n).shareReported

/-- R103: the episode is marked reported, the record offered, SHARE_IMBALANCE made pending. -/
def reportShare (n : Fin 8) (s : State) : State :=
  let e := s.entry n
  match e.shared with
  | none => s
  | some (own, peer) =>
    raise .shareImbalance (offer (.peerShare n own peer) (s.setEntry n { e with shareReported := true }))

def shareStep (n : Fin 8) (s : State) : State := if shareDue n s then reportShare n s else s

/-- SHARE_IMBALANCE (R103). -/
def execShareImbalance (n : Fin 8) (s : State) : Host.Outcome State Fault Refusal := .next (shareStep n s)

/-! ### PEERS -/

/-- R105: the PEERS command as taken. -/
def takePeers (s : State) : State := answer .ok (peersBytes s.peer.table) s

/-- PEERS (R105). -/
def execPeers (payload : List Byte) (s : State) : Host.Outcome State Fault Refusal :=
  serve (bare payload takePeers) s

end Sys2Proof.Machine
end

