-- ==== Sys2Proof/Machine/Phase.lean ====
section
/-! DEFINITION. The Phase Lock Unit: the judgement of an own epoch, locking, the TK_SYN pull and its falls; LOCK,
FOUNDER, SYNC_PULL_END, SYNC_FALL_NOTED (04). The EPOCH command itself is in Instant.lean. -/

namespace Sys2Proof.Machine

/-! ### The lag (R78, R79) -/

/-- R78: a fall noted with the accumulator at 0 exactly was seen at an epoch's instant: as the last of its window, at the
instant of the epoch that closes it. The first window after JOIN can have such a fall from the JOIN's own instant, and no
other: 3600 less 0 lies outside the range R79 gives the lag, and the spec gives that fall none; the model takes it for one
of the closing instant, with lag 0 (log 39). -/
def atEpochInstant (f : Angle) : Bool := decide (f.whole = 0) && decide (f.num = 0)

/-- R79: the whole angle elapsed since a fall noted at `f`, rounded down. -/
def elapsedWhole (f : Angle) : Nat := Config.cycle - f.whole - (if f.num = 0 then 0 else 1)

/-- R80: the angle elapsed since a fall noted at `f`, with its fraction. -/
def elapsed (f : Angle) : Angle :=
  { whole := elapsedWhole f, num := if f.num = 0 then 0 else f.den - f.num, den := f.den }

/-- R79: the lag of the window that closes, in the rule's four cases; `line` is what TK_SYN shows at the epoch. -/
def lagOf (p : PhaseLock) (line : SynLine) : Option Nat :=
  if line = .falling then some 0
  else
    match p.falls.getLast? with
    | some f => some (if atEpochInstant f then 0 else elapsedWhole f)
    | none => if p.sync = .locked ∧ line = .high then some 0 else none

/-! ### The judgement of an own epoch (R73, R80 to R83) -/

/-- R73, R78: the window closes with its lag, and a new one opens. -/
def closeWindow (line : SynLine) (s : State) : State :=
  { s with pll := { s.pll with lag := lagOf s.pll line, falls := [] } }

/-- R71, R74: the accumulator moves forward from 0 to an angle; the jump is advance of the next sample's arc. -/
def jumpTo (a : Angle) (s : State) : State :=
  { s with pll := { s.pll with acc := a, adv := a.whole } }

def setCounts (lock silent : Nat) (s : State) : State :=
  { s with pll := { s.pll with lockCount := lock, silentCount := silent } }

/-- R80: a snap to the angle elapsed since the last noted fall; its half-cycle is irregular (R150). -/
def snapTo (f : Option Angle) (s : State) : State :=
  let t := jumpTo (match f with | some g => elapsed g | none => {}) s
  { t with meas := { t.meas with hc := { t.meas.hc with irregular := true } } }

/-- R80: a SEEKING station's judgement; `f` is the last noted fall. -/
def judgeSeeking (f : Option Angle) (s : State) : State :=
  match s.pll.lag with
  | none => setCounts 0 (min 2 (s.pll.silentCount + 1)) s
  | some l =>
    if l ≤ 5 then setCounts (min 4 (s.pll.lockCount + 1)) 0 (jumpTo { whole := l / 2 } s)
    else if l ≤ 20 then setCounts 0 0 (jumpTo { whole := l / 2 } s)
    else setCounts 0 0 (snapTo f s)

/-- R82: a LOCKED station's judgement in ENROLL, FAULT or RECOVER. -/
def judgeLockedIdle (f : Option Angle) (s : State) : State :=
  match s.pll.lag with
  | none => s
  | some l =>
    if l ≤ 20 then jumpTo { whole := l / 2 } s
    else
      let t := setCounts 0 0 (snapTo f s)
      raise .syncChange { t with pll := { t.pll with sync := .seeking } }

/-- R83: SYNC_LOST is passed in RUN. -/
def loseSync (s : State) : State := if s.state = .run then passCause .syncLost s else s

/-- R83: a LOCKED station's judgement in ARMED or RUN. -/
def judgeLockedActive (s : State) : State :=
  match s.pll.lag with
  | none => loseSync s
  | some l =>
    if l ≤ 20 then jumpTo { whole := l / 2 } s
    else if l ≤ 100 then jumpTo { whole := 20 } s
    else loseSync (jumpTo { whole := 20 } s)

/-- R73 step 1. -/
def judgeWindow (line : SynLine) (s : State) : State :=
  let f := s.pll.falls.getLast?
  let t := closeWindow line s
  if t.pll.sync = .seeking then judgeSeeking f t
  else if t.state = .armed ∨ t.state = .run then judgeLockedActive t
  else judgeLockedIdle f t

/-- R73 step 2, R77: the pull begins if the station is then LOCKED; a pull of the cycle before has ended. -/
def pullIfLocked (s : State) : State :=
  { s with pll := { s.pll with pull := decide (s.pll.sync = .locked), pullAdv := 0 } }

/-! ### LOCK and FOUNDER -/

/-- R76, R89: slot 0 begins at the epoch; station 0 begins its frame there after the judgement. Where a GATE_TIMEOUT, a
PEER_LOST or a cue's start or end falls at the same epoch, R91 and R113 leave the order open: the model forms the frame
first, so it shows the state before them, but after the half-cycle that closes there and after a SYNC_LOST or MEAS_LOST
of that epoch (log 40). -/
def slotZero (s : State) : State :=
  if s.straps.number = 0 ∧ s.pll.atEpoch = true then beginFrame s else s

/-- R80, R85: the station becomes LOCKED at the epoch and pulls. -/
def becomeLocked (s : State) : State :=
  slotZero (judgeGate
    (raiseIf (decide (s.state ≠ .run)) .syncChange
      { s with pll := { s.pll with
          sync := .locked, lockCount := 0, silentCount := 0, pull := true, pullAdv := 0 } }))

/-- R80: a SEEKING station whose lock count has reached 4. -/
def lockDue (s : State) : Bool :=
  s.joined && decide (s.pll.sync = .seeking) && decide (s.pll.lockCount = 4)

/-- R81: a SEEKING station whose silent count has reached 2. -/
def founderDue (s : State) : Bool :=
  s.joined && decide (s.pll.sync = .seeking) && decide (s.pll.silentCount = 2)

def lockStep (s : State) : State := if lockDue s then becomeLocked s else s

/-- R81: the founder's pull makes a fall on the high line, which is noted in its window with a lag of 0. -/
def found (s : State) : State := becomeLocked { s with pll := { s.pll with lag := some 0 } }

def founderStep (s : State) : State := if founderDue s then found s else s

/-- LOCK (R80). -/
def execLock (s : State) : Host.Outcome State Fault Refusal := .next (lockStep s)

/-- FOUNDER (R81). -/
def execFounder (s : State) : Host.Outcome State Fault Refusal := .next (founderStep s)

/-! ### The TK_SYN line -/

/-- R74: the next multiple of 5 above the accumulator. -/
def nextMultiple (p : PhaseLock) : Nat := (p.acc.whole / Config.sampleStep + 1) * Config.sampleStep

/-- R77: the running advance since the pull began, once the next multiple of 5 is reached. -/
def pullAtNext (p : PhaseLock) : Nat := p.pullAdv + (nextMultiple p - p.acc.whole)

/-- R77: after 10 units of running advance the station releases TK_SYN: the end lies behind the last sample and not
behind the next (log 42). -/
def endPull (s : State) : State :=
  if Config.pullWidth ≤ pullAtNext s.pll then { s with pll := { s.pll with pull := false } } else s

/-- SYNC_PULL_END (R77). -/
def execSyncPullEnd (s : State) : Host.Outcome State Fault Refusal := .next (endPull s)

/-- R71: two angles are of one value. -/
def sameAngle (f g : Angle) : Bool :=
  decide ((f.whole * f.den + f.num) * g.den = (g.whole * g.den + g.num) * f.den)

/-- R78: a fall of the very instant of an epoch already taken belongs to the window judged there: it is noted with the
accumulator at the value the judgement left, or at 0. Where a snap has left no sample before the next epoch, a fall noted
at 0 is of that next epoch's instant (log 28). -/
def belongsToPast (s : State) (f : Angle) : Bool :=
  s.pll.atEpoch && (sameAngle f s.pll.acc || (atEpochInstant f && decide (nextMultiple s.pll < Config.cycle)))

/-- R78: a joined station notes a fall with its accumulator. -/
def noteFall (f : Angle) (s : State) : State :=
  if s.joined && !belongsToPast s f then
    { s with pll := { s.pll with falls := s.pll.falls ++ [f] } }
  else s

/-- SYNC_FALL_NOTED (R78). -/
def execSyncFallNoted (whole num den : Nat) (s : State) : Host.Outcome State Fault Refusal :=
  .next (noteFall { whole := whole, num := num, den := den } s)

end Sys2Proof.Machine
end

