-- ==== Sys2Proof/Machine/Wave.lean ====
section
/-! DEFINITION. The Synthesizer's and the Switch Unit's own steps: FLICKER_CHANGE, STOP_COMPLETION,
PENDING_TRANSITION_CLOSE; and the command HSET (07). -/

namespace Sys2Proof.Machine

/-! ### FLICKER_CHANGE -/

/-- R130, R37: the armed change is made: the toggle count increases, and the envelope is A2 after an odd count and A
after an even one. -/
def makeChange (a : ActiveCue) (f : FlickerLevels) (s : State) : State :=
  { s with
    cue := { s.cue with active := some { a with toggles := a.toggles + 1 } }
    synth := { s.synth with
      envelope := if (a.toggles + 1) % 2 = 1 then f.a2 else f.a
      flicker := some { f with armed := false } } }

def changeFlicker (s : State) : State :=
  if s.synth.flickerDue then
    let t := { s with synth := { s.synth with flickerDue := false } }
    finishWord
      (match s.cue.active, s.synth.flicker with
       | some a, some f => makeChange a f t
       | _, _ => t)
  else s

/-- FLICKER_CHANGE (R130). -/
def execFlickerChange (s : State) : Host.Outcome State Fault Refusal := .next (changeFlicker s)

/-! ### STOP_COMPLETION -/

/-- R136 steps 1, 3 and 4: the Synthesizer's own state; the word of this sample is 0. -/
def stopOutput (s : State) : State :=
  { s with synth := { s.synth with
      envelope := 0, flicker := none, stepOffset := 0, activeSet := .none, clamp := none, clampAsked := false, stop := false
      lastValue := 0, word := 0, wordDue := false
      flickerDue := false, stopDue := false, clampEndDue := false } }

/-- R115: at a fault's stop: stop complete, and the running frequency returns to nominal. -/
def completeFaultStop (s : State) : State :=
  if s.state = .fault then
    { s with
      fault := { s.fault with stopComplete := true }
      pll := { s.pll with runFreq := s.setup.nominal } }
  else s

/-- R45: the active cue is an END cue whose stop has been asked for. -/
def endingRun (s : State) : Bool :=
  match s.cue.active with
  | none => false
  | some a => decide (a.cue.kind = .endRun) && a.stopRequested

/-- R136: the completion, reported to the block that asked for the stop. -/
def completeStop (s : State) : State :=
  if s.synth.stopDue then
    let t := doSwitch .stopCompletion (stopOutput s)
    if endingRun t then closeRun t else completeFaultStop t
  else s

/-- STOP_COMPLETION (R136). -/
def execStopCompletion (s : State) : Host.Outcome State Fault Refusal := .next (completeStop s)

/-! ### PENDING_TRANSITION_CLOSE -/

/-- PENDING_TRANSITION_CLOSE (R140): the named switch closes, subject to the interlock. -/
def execPendingTransitionClose (s : State) : Host.Outcome State Fault Refusal :=
  .next (if closeDue s then finishWord (takeDueClosing s) else s)

/-! ### HSET -/

/-- R133 test 1. -/
def hsetAllowed (st : StationState) : Bool :=
  match st with
  | .config | .enroll => true
  | .armed | .run | .fault | .recover => false

/-- A cue names the set. -/
def Cue.names (n : Nat) (c : Cue) : Bool := decide (c.harmonicSet = some (.set n))

/-- R133 test 6: a queued cue or the active cue names the set. -/
def setInUse (n : Nat) (s : State) : Bool :=
  s.cue.queue.any (Cue.names n) ||
    (match s.cue.active with
     | some a => a.cue.names n
     | none => false)

/-- R133, R134: the set's content and factor are replaced. -/
def storeSet (n : Nat) (es : List HarmonicEntry) (s : State) : State :=
  { s with synth := { s.synth with sets := s.synth.sets.set n { entries := es, factor := rmsFactor es } } }

/-- R133: the HSET command as taken. -/
def takeHset (payload : List Byte) (s : State) : State :=
  if hsetAllowed s.state then
    match parseHset payload with
    | .error r => refuse r s
    | .ok (n, es) =>
      if setInUse n s then answer .inUse [] s
      else answer .ok (u16 (rmsFactor es)) (storeSet n es s)
  else answer .state [] s

/-- HSET (R133). -/
def execHset (payload : List Byte) (s : State) : Host.Outcome State Fault Refusal :=
  serve (takeHset payload) s

end Sys2Proof.Machine
end

