-- ==== Sys2Proof/Machine/Instant.lean ====
section
/-! DEFINITION. The instants of the time base: SAMPLE (R74) and EPOCH (R73). Each first carries out what is still due
from the instant before (log 3). -/

namespace Sys2Proof.Machine

/-! ### What is still due -/

/-- The start samples of a chain of cues: one start makes at most one more cue start at its sample. -/
def startChain : Nat → State → State
  | 0, s => s
  | n + 1, s => if startDue s then startChain n (startCue s) else s

/-- Log 36: a completion that is due is made in this row, and its own row behind it finds it made. -/
def noteCompletion (s : State) : State :=
  if completionDue s then { s with cue := { s.cue with handover := .made } } else s

/-- What the last sample has left due, in the order of its rules. -/
def settleSample (s : State) : State :=
  let s := noteCompletion s
  let s := if closeDue s then finishWord (takeDueClosing s) else s
  let s := completeStop (endClamp (changeFlicker (endRamp s)))
  finishWord (startChain (Config.queueCapacity + 1) (completeCue s))

/-- The same, and then a MEAS_LOST that a sample with a phase step has held back (log 36). -/
def settleRow (s : State) : State := passLoss (settleSample s)

/-- What an epoch has left due. A GATE_TIMEOUT reached there is passed also where a cause before it made the entry, and is
then counted as secondary (R108, R112). -/
def settleEpoch (s : State) : State :=
  let s := founderStep (lockStep s)
  let s := stations.foldl (fun t n => absentStep n t) s
  let s := stations.foldl (fun t n => shareStep n t) s
  recordStep (timeoutStep s)

/-! ### The instant of a sample -/

/-- R74, R75, R77: the Phase Lock Unit at the next multiple of 5 above the accumulator; the multiple at the wrap is the
epoch's (log 11). -/
def nextSample (p : PhaseLock) : Option PhaseLock :=
  if nextMultiple p < Config.cycle then
    some { p with
      sysAngle := nextMultiple p, arc := p.adv + (nextMultiple p - p.acc.whole), adv := 0
      acc := { whole := nextMultiple p, num := 0, den := 1 }
      atEpoch := false
      pull := p.pull && decide (pullAtNext p < Config.pullWidth)
      pullAdv := min Config.pullWidth (pullAtNext p) }
  else none

/-- R73, R75: the Phase Lock Unit at an own epoch, which is the sample at system angle 0. The EPOCH is the row of that
sample, and SAMPLE that of the others (log 11). -/
def epochSample (p : PhaseLock) : PhaseLock :=
  { p with
    sysAngle := 0, arc := p.adv + (Config.cycle - p.acc.whole), adv := 0, acc := {}
    atEpoch := true }

/-- R140: the samples remaining fall by 1. -/
def Transition.tick (t : Transition) : Transition := { t with remaining := t.remaining - 1 }

/-- The station at a sample: the angle, the pending transition's count, the word still to be sent. What was announced for
the coming sample ends with its coming (log 1). -/
def moveTo (p : PhaseLock) (s : State) : State :=
  { s with
    pll := p
    cue := { s.cue with handover := .none }
    sw := { s.sw with pending := s.sw.pending.map Transition.tick }
    synth := { s.synth with wordDue := true }
    meas := { s.meas with hcBegan := false, switchMark := false } }

/-- R21, R20: the advance of a RUNNING cue, and the activation sample of a cue that waits for it. -/
def ActiveCue.atSample (arc : Nat) (cycle : Count32) (a : ActiveCue) : ActiveCue :=
  if a.phase = .running then { a with advance := a.advance + arc }
  else if a.awaiting then { a with awaiting := false, activationCycle := cycle }
  else a

def countAdvance (s : State) : State := mapActive (ActiveCue.atSample s.pll.arc s.group.runCycle) s

/-- R39: the phase steps of a sample, one more cue having started at it: none so far, or the offset they have led to. -/
def stepAfter (s : State) (c : Cue) (o : Option Nat) : Option Nat :=
  if c.kind = .phase ∧ c.phaseDelta.getD 0 ≠ 0 then some (stepBy (c.phaseDelta.getD 0) (o.getD s.synth.stepOffset)) else o

/-- R27, R39: the phase steps of the present sample once a free station has started the LOCAL cues that start at it. -/
def chainSteps (s : State) : List Cue → Option Nat → Option Nat
  | [], o => o
  | c :: cs, o =>
    if c.gate = .localCue ∧ startsAt s (o.getD s.synth.stepOffset) c = true then
      if c.duration = some 0 then chainSteps s cs (stepAfter s c o) else stepAfter s c o
    else o

/-- R75: the phase steps of the present sample, which are made later in it: by the active cue where it starts here (a FREQ
cue where `freq`), and by the cues that follow one that ends here or starts with duration 0. -/
def stepsAhead (freq : Bool) (s : State) : Option Nat :=
  match s.cue.active with
  | none => none
  | some a =>
    if completionDue s then chainSteps s s.cue.queue none
    else if startDue s || freq then
      let o := stepAfter s a.cue none
      if a.cue.duration = some 0 then chainSteps s s.cue.queue o else o
    else none

/-- R75: the crossings of 0 and 1800 at the present sample, on its arc as it lies after the phase steps of the sample
(log 36). -/
def crossed (steps : Option Nat) (s : State) : Nat :=
  crossings (waveAngleAt s (steps.getD s.synth.stepOffset)) s.pll.arc

/-- R144, R150: a change reported against this sample is placed in the half-cycle in progress. -/
def placeMarks (m : Meas) (s : State) : State :=
  { s with meas := { s.meas with hc := { s.meas.hc with
      switchChange := s.meas.hc.switchChange || m.switchMark } } }

/-- R62 step 5, R130, R131, R139: the begin-run requests, at the first sample of RUN. The clamp went at the opening
(R135). -/
def beginRunOutput (s : State) : State :=
  if s.synth.runStart then
    doSwitch .runStart
      { s with synth := { s.synth with
          envelope := 0, activeSet := .none, stepOffset := 0, runStart := false } }
  else s

/-- R36, R130: the ramp's value at a progress `p` of a span, rounded toward the start level. -/
def rampLevel (e0 a span p : Nat) : Nat :=
  if e0 ≤ a then e0 + (a - e0) * min p span / span else e0 - (e0 - a) * min p span / span

/-- R36: the envelope asked for at a sample of a RAMP. -/
def stepRamp (s : State) : State :=
  match s.cue.active with
  | none => s
  | some a =>
    if a.phase = .running ∧ a.cue.kind = .ramp ∧ a.rampDone = false then
      { s with synth := { s.synth with
          envelope := rampLevel a.rampFrom (a.cue.ampA.getD 0) (rampSpan a.cue) a.advance } }
    else s

def armed (y : Synth) : Bool :=
  match y.flicker with
  | some f => f.armed
  | none => false

/-- R130, R135, R136: what a crossing at this sample leaves due: only what was asked for before it (`old`) and still
stands. -/
def latchDue (old : Synth) (crossing : Bool) (s : State) : State :=
  { s with synth := { s.synth with
      flickerDue := crossing && armed old && armed s.synth
      clampEndDue := crossing && old.clamp.isSome && s.synth.clamp.isSome
      stopDue := crossing && old.stop && s.synth.stop } }

/-- R76, R89: the sample at which the own slot begins, slot 0 apart. -/
def slotReached (s : State) : Bool :=
  decide (s.straps.number ≠ 0) &&
    reached (s.straps.number.val * Config.slotWidth) s.pll.sysAngle s.pll.arc

def slotBegin (s : State) : State := if slotReached s then beginFrame s else s

/-- The station moved to a sample, before anything of that sample is judged. -/
def arrive (p : PhaseLock) (s : State) : State := countAdvance (moveTo p s)

/-- R149, R158: the half-cycles that close at a sample. A MEAS_LOST of the close makes its entry at once, and so cuts the
active cue before a completion or an END stop's completion of that same sample. R32 and R46 leave either order open, and
this one is the model's choice at every sample (log 37). Where the sample makes a phase step, on which its crossings lie,
or has been taken with an activation of its instant, the entry waits for the end of the row (`hold`, logs 1 and 36). -/
def closeAt (hold : Bool) (closing : Nat) (s : State) : State :=
  let t := closeHalves closing s
  if hold then t else passLoss t

/-- R74: what happens at the instant of a sample, with its phase steps: the half-cycles that close there and their
MEAS_LOST (`closeAt`) come before the completions of that sample, which the model chooses (log 37). The own slot's frame is
formed behind them and before the other events of the sample (log 40). -/
def arriveAt (hold : Bool) (steps : Option Nat) (p : PhaseLock) (s : State) : State :=
  let t := arrive p s
  let closing := crossed steps t
  slotBegin (latchDue s.synth (decide (closing ≠ 0))
    (stepRamp (beginRunOutput (placeMarks s.meas (closeAt hold closing t)))))

/-- Where a sample makes a phase step, everything due at it is carried out in its row, so that no other row comes between
the crossings judged on the step and the step (log 36), and a MEAS_LOST held back is passed behind it. Elsewhere each event
has its own row behind this one. -/
def foldSteps (steps : Option Nat) (s : State) : State := if steps.isSome then settleRow s else s

/-! ### SAMPLE -/

/-- Log 3: everything still due, before the next instant. -/
def settle (s : State) : State :=
  passTolerance (passOverload
    (stations.foldl (fun t n => tagStep n t) (settleEpoch (settleRow s))))

/-- R74: a sample that is no epoch's. The word is sent where nothing is due. -/
def takeSample (p : PhaseLock) (s : State) : State :=
  let steps := stepsAhead false (arrive p s)
  finishWord (foldSteps steps (arriveAt steps.isSome steps p s))

/-- R74: the next sample of a joined station, after what was due before it. The multiple of 5 at the wrap is the sample of
an epoch, which EPOCH takes (R73, log 11). -/
def nextStep (s : State) : State :=
  match nextSample s.pll with
  | none => s
  | some _ =>
    let t := settle s
    match nextSample t.pll with
    | none => t
    | some p => takeSample p t

/-- The row of a sample that has been taken has come. -/
def dropTaken (s : State) : State := { s with pll := { s.pll with taken := .none } }

/-- R74, R20: the row of a sample that was taken with an activation of its instant: a MEAS_LOST of its close is passed
behind that activation (log 1). -/
def endTaken (s : State) : State := finishWord (passLoss (dropTaken s))

def sampleStep (s : State) : State :=
  if s.joined then
    match s.pll.taken with
    | .none => nextStep s
    | .sample => endTaken s
    | .epoch => s
  else s

/-- SAMPLE (R74). -/
def execSample (s : State) : Host.Outcome State Fault Refusal := .next (sampleStep s)

/-! ### EPOCH -/

/-- R65: the run cycle counter. -/
def countCycle (s : State) : State :=
  if s.state = .run then { s with group := { s.group with runCycle := s.group.runCycle + 1 } } else s

/-- R60: the gate timer; the count that reaches the gate limit leaves a GATE_TIMEOUT to be passed. -/
def tickTimer (s : State) : State :=
  if s.group.timerOn then
    { s with group := { s.group with
        timer := s.group.timer + 1
        timeoutDue := s.group.timeoutDue || decide (s.setup.gateLimit ≤ s.group.timer + 1) } }
  else s

/-- R118: the epochs since onset. -/
def countEpoch (s : State) : State :=
  if s.state = .fault ∧ s.fault.offered = false then
    { s with fault := { s.fault with epochs := min 2 (s.fault.epochs + 1) } }
  else s

/-- R73: the counts of the other blocks, which take the epoch as an instant (log 26). -/
def countAtEpoch (s : State) : State := agePeers (countEpoch (tickTimer (countCycle s)))

/-- R86: the active cue is a FREQ cue that waits for this epoch: its activation sample was taken before it. -/
def freqWaits (s : State) : Bool :=
  match s.cue.active with
  | none => false
  | some a => decide (a.cue.kind = .freq) && decide (a.phase = .pendingAngle) && !a.awaiting && s.pll.pendingFreq.isSome

/-- R73 step 3, R86, R40: the pending frequency change is made, and the FREQ cue that waited for it starts at once: a cut
finds it before both or after both. -/
def applyFreq (freq : Bool) (s : State) : State :=
  match s.cue.active, s.pll.pendingFreq with
  | some a, some f =>
    if freq then beginCue a { s with pll := { s.pll with runFreq := f, pendingFreq := none } } else s
  | _, _ => s

/-- R83, R108: the judgement of the window that closes is going to pass a SYNC_LOST in RUN. -/
def losesSync (line : SynLine) (s : State) : Bool :=
  decide (s.state = .run) && decide (s.pll.sync = .locked) &&
    (match lagOf s.pll line with
     | none => true
     | some l => decide (100 < l))

/-- R75: the phase steps of an epoch's sample. Those behind a FREQ cue come with the frequency change, so behind the
judgement (R73), whose SYNC_LOST leaves none of them. -/
def epochSteps (line : SynLine) (s : State) : Option Nat :=
  let freq := freqWaits s
  if freq && losesSync line s then none else stepsAhead freq (arrive (epochSample s.pll) (countAtEpoch s))

/-- R73: the judgement of an own epoch with what precedes and follows it at once: the share check on the values of the
epoch's sample (R103), the pull, slot 0. -/
def judgeEpoch (line : SynLine) (s : State) : State := slotZero (pullIfLocked (judgeWindow line (checkShares s)))

/-- R73: an own epoch, after what was due before it. The counts, then the sample at angle 0, which charges the half-cycle
and the advance that a cut of this epoch reports (R25, R32, R154), with its phase steps and all that is due then (log 36);
then the judgement and the frequency change, with the word last (logs 26, 40). A MEAS_LOST of that sample comes before the
judgement. A completion, a stop's completion, an OVERLOAD or an OUT_OF_TOLERANCE of a sample without a phase step comes
behind it, so a SYNC_LOST is taken first; R32, R46 and R108 allow either order, and this one is the model's (log 37). -/
def takeEpoch (line : SynLine) (s : State) : State :=
  let freq := freqWaits s
  let steps := epochSteps line s
  let t := arriveAt steps.isSome steps (epochSample s.pll) (countAtEpoch s)
  if freq then finishWord (foldSteps steps (applyFreq true (judgeEpoch line t)))
  else finishWord (judgeEpoch line (foldSteps steps t))

/-- R73, R20: the row of an epoch whose sample was taken with an activation of its instant: what the EPOCH has behind that
sample (log 1). -/
def endTakenEpoch (line : SynLine) (s : State) : State :=
  let t := { s with pll := { s.pll with taken := .none, atEpoch := true } }
  finishWord (judgeEpoch line (passLoss (agePeers (tickTimer t))))

def epochStep (line : SynLine) (s : State) : State :=
  if s.joined then
    match s.pll.taken with
    | .none => takeEpoch line (settle s)
    | .sample => takeEpoch line (settle (dropTaken s))
    | .epoch => endTakenEpoch line s
  else s

/-- EPOCH (R73). -/
def execEpoch (line : SynLine) (s : State) : Host.Outcome State Fault Refusal := .next (epochStep line s)

end Sys2Proof.Machine
end

