-- ==== Sys2Proof/Machine/Handover.lean ====
section
/-! DEFINITION. The activation of a cue by an opening or an append, also at the very instant of the coming sample;
CUE_COMPLETION (02) and GATE_OPENING (03). -/

namespace Sys2Proof.Machine

/-! ### An activation of the coming sample's instant -/

/-- R26: the end of the open cue is announced for the very instant of the coming sample (log 1). -/
def endAnnounced (s : State) : Bool :=
  decide (s.cue.handover = .announced) && decide (s.state = .run) && holdsOpen s

/-- R74, R73: the coming sample as it is taken with an activation of its instant: that of a SAMPLE or that of an EPOCH. -/
def comingSample (p : PhaseLock) : PhaseLock :=
  match nextSample p with
  | some q => { q with taken := .sample }
  | none => { epochSample p with atEpoch := false, taken := .epoch }

/-- R65, R118: the counts that an epoch's sample finds made. Those of the gate timer and of the peer table come with the
EPOCH's row: an opening of that instant has ended the wait. -/
def countComing (s : State) : State :=
  match nextSample s.pll with
  | some _ => s
  | none => countEpoch (countCycle s)

/-- R20: the queue as the activation takes it: its head whatever the gate. -/
def headTaken : List Cue → List Cue
  | [] => []
  | c :: cs => { c with gate := .localCue } :: cs

/-- R75: the phase steps of the coming sample, where the head is activated at it. -/
def comingSteps (s : State) : Option Nat :=
  let t := arrive (comingSample s.pll) (countComing s)
  chainSteps t (headTaken t.cue.queue) none

/-- R20, R26, R154: an activation of the coming sample's instant. The sample is taken first: the open cue has it in its
advance and in its check record, and it is the activation sample of the successor. A MEAS_LOST of that sample waits for its
row (log 1). -/
def activateWithSample (s : State) : State :=
  let steps := comingSteps s
  let t := activate true (arriveAt true steps (comingSample s.pll) (countComing s))
  finishWord (if steps.isSome then settleSample t else t)

/-- R20: the activation that an opening or an append asks for, made at its instant. -/
def requestActivation (s : State) : State :=
  if endAnnounced s then activateWithSample s else activate false s

/-! ### CUE_COMPLETION -/

/-- R26: the open cue of duration 0 ends at the coming sample, where an opening or an append behind this row activates its
successor (log 1). That sample's instant has then come, so what earlier ones have left due is carried out (log 3). -/
def announceEnd (s : State) : State :=
  let t := settle s
  if t.state = .run ∧ holdsOpen t = true then { t with cue := { t.cue with handover := .announced } } else t

/-- R26: the row says the end of an open cue beforehand: none has been said, and the coming sample has not been taken. -/
def announces (s : State) : Bool :=
  decide (s.state = .run) && holdsOpen s && decide (s.cue.handover = .none) && decide (s.pll.taken = .none)

/-- R25: the completion of the last sample, unless it has been made in the row of another command (log 36). For a station in
RUN that holds a cue of duration 0 open, whose end R26 gives, the row stands before that of the successor's activation and
says that both fall at the very instant of the coming sample (log 1). -/
def completionRow (s : State) : State :=
  if s.cue.handover = .made then { s with cue := { s.cue with handover := .none } }
  else if announces s then announceEnd s
  else completeCue s

/-- CUE_COMPLETION (R25). -/
def execCueCompletion (s : State) : Host.Outcome State Fault Refusal := .next (completionRow s)

/-! ### GATE_OPENING -/

/-- R58: an opening is seen. -/
def seeOpening (s : State) : State :=
  if openingSeen s then
    let t := beginPulse s
    if s.state = .armed then activate false (openRun t) else requestActivation t
  else s

/-- GATE_OPENING (R58). -/
def execGateOpening (s : State) : Host.Outcome State Fault Refusal := .next (seeOpening s)

end Sys2Proof.Machine
end

