-- ==== Sys2Proof/Machine/CueCommand.lean ====
section
/-! DEFINITION. The Cue Engine's commands: CUE and FLUSH (01). -/

namespace Sys2Proof.Machine

/-! ### CUE -/

/-- R1: the states in which a cue record is examined. -/
def cueAllowed (st : StationState) : Bool :=
  match st with
  | .config | .enroll | .armed | .run => true
  | .fault | .recover => false

/-- R7: an accepted cue joins the tail and is counted. -/
def appendCue (c : Cue) (s : State) : State :=
  { s with cue := { s.cue with queue := s.cue.queue ++ [c], accepted := s.cue.accepted + 1 } }

/-- R20: a LOCAL cue appended to an empty queue of a free station in RUN is activated at once. -/
def afterAppend (wasEmpty : Bool) (c : Cue) (s : State) : State :=
  judgeGate
    (if s.state = .run ∧ isFree s = true ∧ wasEmpty = true ∧ c.gate = .localCue then requestActivation s else s)

/-- R1, R4, R7, R29: the CUE command as taken. -/
def takeCue (payload : List Byte) (s : State) : State :=
  if cueAllowed s.state then
    match parseCue s.synth.sets payload with
    | .error r => refuse r s
    | .ok c =>
      if Config.queueCapacity ≤ s.cue.queue.length then answer .full [] s
      else
        afterAppend s.cue.queue.isEmpty c
          (answer .ok (u8 (s.cue.queue.length + 1)) (appendCue c s))
  else answer .state [] s

/-- The payload is that of a valid LOCAL PHASE cue. -/
def spellsStep (sets : List HarmonicSet) (payload : List Byte) : Bool :=
  match parseCue sets payload with
  | .ok c => decide (c.kind = .phase) && decide (c.gate = .localCue)
  | .error _ => false

/-- A cue of the present sample is still to end or to start. -/
def chainDue (s : State) : Bool := completionDue s || startDue s

/-- R75, R149: a LOCAL PHASE cue that a station in RUN accepts while a cue of the present sample is still to end or to start
is taken behind them: the crossings of that sample have been judged without its step (log 36). -/
def takenBehind (payload : List Byte) (s : State) : Bool :=
  s.hears && decide (s.state = .run) && decide (s.cue.queue.length < Config.queueCapacity) && chainDue s &&
    spellsStep s.synth.sets payload

/-- CUE's state before the command: what has to come before it is made. -/
def beforeCue (payload : List Byte) (s : State) : State := if takenBehind payload s then settleSample s else s

/-- CUE (R1). -/
def execCue (payload : List Byte) (s : State) : Host.Outcome State Fault Refusal :=
  serve (takeCue payload) (beforeCue payload s)

/-! ### FLUSH -/

/-- R29, R30: after a FLUSH that removed a cue, a free station in RUN is dry or holds its cue open. -/
def afterFlush (s : State) : State :=
  judgeGate (raiseIf (decide (s.state = .run) && isFree s) .queueDry s)

/-- R12: the FLUSH command as taken. -/
def takeFlush (s : State) : State :=
  answer .ok (u8 s.cue.queue.length)
    (if s.cue.queue.isEmpty then s else afterFlush (flushQueue s))

/-- FLUSH (R12). -/
def execFlush (payload : List Byte) (s : State) : Host.Outcome State Fault Refusal :=
  serve (bare payload takeFlush) s

end Sys2Proof.Machine
end

