-- ==== Sys2Proof/Machine/Report.lean ====
section
/-! DEFINITION. The Report Queue: TAKE and CLEAR_LOSS (09). -/

namespace Sys2Proof.Machine

/-- R165: the records a TAKE of `n` carries: they share the 128 reply bytes with their count. -/
def carriedRecords (n : Nat) (s : State) : List Record :=
  fitRecords n (Config.replyCapacity - 1) s.report.records

/-- R165: the reply of an accepted TAKE; its records are fixed here and leave at the complete reply (R166). -/
def takeReply (rs : List Record) : Reply where
  result := .ok
  bytes := u8 rs.length ++ rs.flatMap Record.bytes
  carried := rs.length

/-- R165: the TAKE command as taken. -/
def takeRecords (payload : List Byte) (s : State) : State :=
  match parseTake payload with
  | .error r => refuse r s
  | .ok n => { s with port := { s.port with reply := some (takeReply (carriedRecords n s)) } }

/-- TAKE (R165). -/
def execTake (payload : List Byte) (s : State) : Host.Outcome State Fault Refusal :=
  serve (takeRecords payload) s

/-- R167: an accepted CLEAR_LOSS. -/
def storeLoss (s : State) : State :=
  raiseIf s.report.records.isEmpty .reportReady
    { s with report := {
        records := s.report.records ++ [.loss s.report.lostCount], lost := false, lostCount := 0 } }

/-- R167: the CLEAR_LOSS command as taken. -/
def takeClearLoss (s : State) : State :=
  if s.report.lost = false then answer .state [] s
  else if Config.reportCapacity ≤ s.report.records.length then answer .full [] s
  else answer .ok (u8 s.report.lostCount) (storeLoss s)

/-- CLEAR_LOSS (R167). -/
def execClearLoss (payload : List Byte) (s : State) : Host.Outcome State Fault Refusal :=
  serve (bare payload takeClearLoss) s

end Sys2Proof.Machine
end

