-- ==== Sys2Proof/Machine/Dispatch.lean ====
section
/-! DEFINITION. One arm per command: the command's effect on everything but the queue. -/

namespace Sys2Proof.Machine

def exec (i : Instr) (s : State) : Host.Outcome State Fault Refusal :=
  match i with
  | .status payload => Sys2Proof.Machine.execStatus payload s
  | .setup payload => Sys2Proof.Machine.execSetup payload s
  | .hset payload => Sys2Proof.Machine.execHset payload s
  | .cue payload => Sys2Proof.Machine.execCue payload s
  | .flush payload => Sys2Proof.Machine.execFlush payload s
  | .join payload => Sys2Proof.Machine.execJoin payload s
  | .leave payload => Sys2Proof.Machine.execLeave payload s
  | .arm payload => Sys2Proof.Machine.execArm payload s
  | .disarm payload => Sys2Proof.Machine.execDisarm payload s
  | .abort payload => Sys2Proof.Machine.execAbort payload s
  | .clearFault payload => Sys2Proof.Machine.execClearFault payload s
  | .take payload => Sys2Proof.Machine.execTake payload s
  | .clearLoss payload => Sys2Proof.Machine.execClearLoss payload s
  | .peers payload => Sys2Proof.Machine.execPeers payload s
  | .alertSet payload => Sys2Proof.Machine.execAlertSet payload s
  | .alertNext payload => Sys2Proof.Machine.execAlertNext payload s
  | .alertDone payload => Sys2Proof.Machine.execAlertDone payload s
  | .reset payload => Sys2Proof.Machine.execReset payload s
  | .unknownCommand code payload => Sys2Proof.Machine.execUnknownCommand code payload s
  | .badCheckFrame code payload check => Sys2Proof.Machine.execBadCheckFrame code payload check s
  | .lenAbove64 code len => Sys2Proof.Machine.execLenAbove64 code len s
  | .commandCut sckEdges => Sys2Proof.Machine.execCommandCut sckEdges s
  | .replyCut => Sys2Proof.Machine.execReplyCut s
  | .replyComplete => Sys2Proof.Machine.execReplyComplete s
  | .commandReset => Sys2Proof.Machine.execCommandReset s
  | .pinReset => Sys2Proof.Machine.execPinReset s
  | .powerOnReset => Sys2Proof.Machine.execPowerOnReset s
  | .resetEnd id ph1 ph0 csnHigh => Sys2Proof.Machine.execResetEnd id ph1 ph0 csnHigh s
  | .sample => Sys2Proof.Machine.execSample s
  | .peerFrameSent => Sys2Proof.Machine.execPeerFrameSent s
  | .readbackMismatch => Sys2Proof.Machine.execReadbackMismatch s
  | .peerFrameReceived bytes => Sys2Proof.Machine.execPeerFrameReceived bytes s
  | .epoch line => Sys2Proof.Machine.execEpoch line s
  | .lock => Sys2Proof.Machine.execLock s
  | .founder => Sys2Proof.Machine.execFounder s
  | .peerAbsent station => Sys2Proof.Machine.execPeerAbsent station s
  | .shareImbalance station => Sys2Proof.Machine.execShareImbalance station s
  | .syncPullEnd => Sys2Proof.Machine.execSyncPullEnd s
  | .syncFallNoted whole num den => Sys2Proof.Machine.execSyncFallNoted whole num den s
  | .gateTimeout => Sys2Proof.Machine.execGateTimeout s
  | .tagMismatch station => Sys2Proof.Machine.execTagMismatch station s
  | .tkGateChange high => Sys2Proof.Machine.execTkGateChange high s
  | .gateOpening => Sys2Proof.Machine.execGateOpening s
  | .gatePulseEnd => Sys2Proof.Machine.execGatePulseEnd s
  | .cueStart => Sys2Proof.Machine.execCueStart s
  | .cueCompletion => Sys2Proof.Machine.execCueCompletion s
  | .rampEnd => Sys2Proof.Machine.execRampEnd s
  | .flickerBoundary => Sys2Proof.Machine.execFlickerBoundary s
  | .flickerChange => Sys2Proof.Machine.execFlickerChange s
  | .stopCompletion => Sys2Proof.Machine.execStopCompletion s
  | .pendingTransitionClose => Sys2Proof.Machine.execPendingTransitionClose s
  | .decimatorResult channel bits => Sys2Proof.Machine.execDecimatorResult channel bits s
  | .clampEnd => Sys2Proof.Machine.execClampEnd s
  | .overload => Sys2Proof.Machine.execOverload s
  | .outOfTolerance => Sys2Proof.Machine.execOutOfTolerance s
  | .tkFltFall => Sys2Proof.Machine.execTkFltFall s
  | .tkFltRise => Sys2Proof.Machine.execTkFltRise s
  | .faultRecord => Sys2Proof.Machine.execFaultRecord s
  | .receiverAbandonsFrame => Sys2Proof.Machine.execReceiverAbandonsFrame s
  | .csnHighSeen => Sys2Proof.Machine.execCsnHighSeen s

end Sys2Proof.Machine
end

