-- ==== Sys2Proof/Safety.lean ====
section
/-! DEFINITION. The laws of the device that the spec says its blocks keep, each as a predicate of one state. -/

namespace Sys2Proof.Machine

/-- The shape of the model's tables: eight entries, eight sets, eight tag counts. -/
abbrev ShapeLaw (s : State) : Prop :=
  s.peer.table.length = 8 ∧ s.synth.sets.length = 8 ∧ s.group.tagCounts.length = 8

/-- R142: SW0 and SW1 are never both closed. -/
abbrev SwitchLaw (s : State) : Prop := (s.sw.sw0 && s.sw.sw1) = false

/-- R8: at most 32 queued cues; an active cue in RUN alone; an empty queue in FAULT and RECOVER (R15). -/
abbrev QueueLaw (s : State) : Prop :=
  s.cue.queue.length ≤ 32 ∧ (s.cue.active.isSome = true → s.state = .run) ∧
    ((s.state = .fault ∨ s.state = .recover) → s.cue.queue = [])

/-- R18: the cue counters, modulo 2^32. -/
abbrev CounterLaw (s : State) : Prop :=
  s.cue.accepted = BitVec.ofNat 32 s.cue.queue.length + s.cue.started + s.cue.discarded ∧
    s.cue.started = s.cue.ended + (if s.cue.active.isSome = true then 1 else 0)

/-- R160: at most 24 records; the lost count is 0 while not LOST and 1 to 255 while LOST. -/
abbrev ReportLaw (s : State) : Prop :=
  s.report.records.length ≤ 24 ∧ s.report.lostCount ≤ 255 ∧
    (s.report.lost = false ↔ s.report.lostCount = 0)

/-- Each priority below the one above it, the top first. -/
def descending : List StackEntry → Bool
  | [] => true
  | [_] => true
  | e :: f :: rest => decide (f.priority < e.priority) && descending (f :: rest)

/-- R169, R173: priorities 0 to 3; the service stack holds at most four entries, each above the one beneath it. -/
abbrev StackLaw (s : State) : Prop :=
  s.alert.stack.length ≤ 4 ∧ descending s.alert.stack = true ∧
    s.alert.stack.all (fun e => decide (e.priority ≤ 3)) = true ∧
    s.alert.prio.all (fun p => decide (p ≤ 3)) = true ∧ s.alert.prio.length = 14

/-- R117: a station holds TK_FLT low in FAULT alone. -/
abbrev FaultLineLaw (s : State) : Prop := s.fault.fltLow = true ↔ s.state = .fault

/-- R107, R122: FAULT and RECOVER have a cause, the other states none. -/
abbrev CauseLaw (s : State) : Prop := s.fault.cause.isSome = true ↔ (s.state = .fault ∨ s.state = .recover)

/-- R63: the roster is empty in every state other than RUN and FAULT, and in RUN it holds the station itself. -/
abbrev RosterLaw (s : State) : Prop :=
  (¬(s.state = .run ∨ s.state = .fault) → s.roster = []) ∧ (s.state = .run → s.straps.number ∈ s.roster)

/-- R77, R83: a pull while joined and LOCKED alone; SEEKING in CONFIG; LOCKED in ARMED and RUN. -/
abbrev SyncLaw (s : State) : Prop :=
  (s.pll.pull = true → s.joined = true ∧ s.pll.sync = .locked) ∧
    (s.state = .config → s.pll.sync = .seeking) ∧
    ((s.state = .armed ∨ s.state = .run) → s.pll.sync = .locked)

/-- R53, R58, R60: TK_GATE is driven in ARMED and RUN alone; it is released through the gate pulse, and outside it at the
gate alone; the gate timer runs while the station waits and only then. -/
abbrev GateLaw (s : State) : Prop :=
  (s.group.drive ≠ .notDriven ↔ (s.state = .armed ∨ s.state = .run)) ∧
    (s.group.pulse = true → s.group.drive = .released) ∧ (waiting s = true → atGate s = true) ∧
    (s.group.timerOn = waiting s)

/-- R89, R95: a frame is in hand while the receiver reads nothing, and only then, and never while the slot is barred; it
is the frame of a LOCKED station with the station's own number; the receiver is stopped in CONFIG alone, so a station
that sends is joined. -/
abbrev TransmitLaw (s : State) : Prop :=
  (s.peer.tx.isSome = true ↔ s.peer.rx = .muted) ∧ (s.peer.rx = .stopped ↔ s.joined = false) ∧
    (s.peer.tx.isSome = true → s.peer.barred = false) ∧
    s.peer.tx.all (fun f => f.lock && decide (f.number = s.straps.number)) = true

/-- R129: the word sent is 0 in every state other than RUN and FAULT, and in FAULT once the stop is complete. -/
abbrev WordLaw (s : State) : Prop := outputOn s = false → s.synth.word = 0

/-- The amplitudes of a cue lie in their range. -/
def Cue.levelsFit (c : Cue) : Bool := decide (c.ampA.getD 0 ≤ 1500) && decide (c.ampA2.getD 0 ≤ 1500)

/-- R129: the envelope never exceeds 1500, and neither does any level held for it. -/
abbrev EnvelopeLaw (s : State) : Prop :=
  s.synth.envelope ≤ 1500 ∧ s.cue.queue.all Cue.levelsFit = true ∧
    s.cue.active.all (fun a => a.cue.levelsFit && decide (a.rampFrom ≤ 1500)) = true ∧
    s.synth.flicker.all (fun f => decide (f.a ≤ 1500) && decide (f.a2 ≤ 1500)) = true

/-- R6: the set a cue names, where it names one, holds at least one entry. -/
def Cue.setHeld (sets : List HarmonicSet) (c : Cue) : Bool :=
  match c.harmonicSet with
  | some (.set n) => !(sets.getD n {}).entries.isEmpty
  | _ => true

/-- R6: every queued or active cue that names a set names one that holds an entry. -/
abbrev SetsLaw (s : State) : Prop :=
  s.cue.queue.all (Cue.setHeld s.synth.sets) = true ∧
    s.cue.active.all (fun a => a.cue.setHeld s.synth.sets) = true

/-- R183, R112, R118: saturating counts stay in their ranges. -/
abbrev CountLaw (s : State) : Prop :=
  s.port.frameCuts ≤ 255 ∧ s.fault.secondary ≤ 255 ∧ s.fault.epochs ≤ 2

/-- R3: an END cue carries no duration. -/
def Cue.endOpen (c : Cue) : Bool := decide (c.kind = .endRun → c.duration = none)

/-- The active cue is an END cue whose stop was asked for at its start sample (R44). -/
def endStopping (s : State) : Bool :=
  s.cue.active.any (fun a => decide (a.cue.kind = .endRun) && a.stopRequested && decide (a.phase = .running))

/-- R136, R143: a stop is under way exactly in FAULT before its stop is complete and in RUN under an END cue; while it
is, SW1 is open, no closing is pending and no run start waits. -/
abbrev StopLaw (s : State) : Prop :=
  (s.synth.stop = true ↔ ((s.state = .fault ∧ s.fault.stopComplete = false) ∨
      (s.state = .run ∧ endStopping s = true))) ∧
    (s.synth.stop = true → s.sw.sw1 = false ∧ s.sw.pending = none ∧ s.synth.runStart = false) ∧
    (s.synth.stopDue = true → s.synth.stop = true) ∧
    (s.synth.runStart = true → s.state = .run) ∧
    (endingRun s = true → endStopping s = true) ∧
    s.cue.queue.all Cue.endOpen = true ∧ s.cue.active.all (fun a => a.cue.endOpen) = true

/-- R138: in every state other than RUN and FAULT, and in FAULT once the stop is complete, both switches are open and
no closing is pending. -/
abbrev SwitchesOpenLaw (s : State) : Prop :=
  outputOn s = false → s.sw.sw0 = false ∧ s.sw.sw1 = false ∧ s.sw.pending = none

/-- R189: while a reset lasts the station is in CONFIG. -/
abbrev ResetLaw (s : State) : Prop := s.inReset = true → s.state = .config

end Sys2Proof.Machine
end

