-- ==== Sys2Proof/WellFormed.lean ====
section
/-! DEFINITION. The commands that the hardware can be given: what each operand can be. The meanings hold for every
term; these checks say which terms stand for an event at all. -/

namespace Sys2Proof

/-- R176, R178: a taken frame's payload holds 0 to 64 bytes. -/
def payloadFits (payload : List Byte) : Bool := decide (payload.length ≤ 64)

/-- R145: a decimation interval holds one bit for each of the ratio's edges. -/
def intervalFits (bits : List Bool) : Bool := [64, 128, 256].contains bits.length

/-- R71, R78: a noted fall carries an angle of 0 to 3599 and a fraction below one unit. -/
def fallFits (whole num den : Nat) : Bool := decide (whole < Config.cycle) && decide (num < den)

/-- The operands a command can carry. -/
def Instr.wellFormed : Instr → Bool
  | .status p | .setup p | .hset p | .cue p | .flush p | .join p | .leave p | .arm p | .disarm p | .abort p
  | .clearFault p | .take p | .clearLoss p | .peers p | .alertSet p | .alertNext p | .alertDone p | .reset p =>
    payloadFits p
  | .unknownCommand code p => payloadFits p && !Machine.knownCodes.contains code.toNat
  | .badCheckFrame code p check => payloadFits p && decide (Machine.frameCheck code p ≠ check)
  | .lenAbove64 _ len => decide (64 < len.toNat)
  | .peerFrameReceived bytes => decide (bytes.length = 16)
  | .syncFallNoted whole num den => fallFits whole num den
  | .decimatorResult _ bits => intervalFits bits
  | .commandCut _ | .replyCut | .replyComplete | .commandReset | .pinReset | .powerOnReset | .resetEnd _ _ _ _
  | .sample | .peerFrameSent | .readbackMismatch | .epoch _ | .lock | .founder | .peerAbsent _
  | .shareImbalance _ | .syncPullEnd | .gateTimeout | .tagMismatch _ | .tkGateChange _ | .gateOpening
  | .gatePulseEnd | .cueStart | .cueCompletion | .rampEnd | .flickerBoundary | .flickerChange | .stopCompletion
  | .pendingTransitionClose | .clampEnd | .overload | .outOfTolerance | .tkFltFall | .tkFltRise | .faultRecord
  | .receiverAbandonsFrame | .csnHighSeen => true

end Sys2Proof
end

