-- ==== Sys2Proof/Certificates/Slice0/Obligations.lean ====
section
/-! DEFINITION. The statements for the provers, and the predicates they are written with (Sys2Proof.Claims). -/

namespace Sys2Proof.Claims

open Sys2Proof Sys2Proof.Machine

/-! ### Replies, alerts, offers -/

/-- The Alert Unit with one more pending flag. -/
def flagged (n : Nat) (a : AlertUnit) : AlertUnit := { a with pending := a.pending ||| BitVec.twoPow 14 n }

/-- R182: CSN has risen since the last frame: a reply still under shift was cut there, counted and FRAME_CUT made pending
(that a frame's row implies the rise is the model's reading, log 16). -/
def risen (s : State) : State :=
  if s.port.reply.isSome = true then
    { s with
      port := { s.port with reply := none, stage := .closed, frameCuts := min 255 (s.port.frameCuts + 1) }
      alert := flagged 13 s.alert }
  else s

/-- R177: the summary byte of the frame whose command has ended: as taken at the fall of CSN, or with the command where
the fall had no step of its own (log 17). -/
def frameSummary (s : State) : Byte :=
  if (risen s).port.stage = .command then s.port.summary else summaryByte (risen s)

/-- The state with a reply under shift and the summary byte of the frame, all else as it was. -/
def repliedWith (r : Reply) (s : State) : State :=
  { risen s with port := { (risen s).port with reply := some r, summary := frameSummary s, stage := .answering } }

/-- The same, for a reply that carries no record and is not STATUS's. -/
def replied (r : Result) (bytes : List Byte) (s : State) : State := repliedWith { result := r, bytes := bytes } s

/-- Cause number `n` is pending. -/
def isFlagged (n : Nat) (a : AlertUnit) : Prop := a.pending.getLsbD n = true

/-- Between two states of the Alert Unit pending flags are only set; nothing else changes. -/
def onlyFlags (a b : AlertUnit) : Prop :=
  b = { a with pending := b.pending } ∧ a.pending &&& b.pending = a.pending

/-- R163, R164: what one offer makes of the Report Queue. -/
def stored (q : ReportQueue) (r : Record) : ReportQueue :=
  if q.lost then { q with lostCount := min 255 (q.lostCount + 1) }
  else if 24 ≤ q.records.length then { q with lost := true, lostCount := 1 }
  else { q with records := q.records ++ [r] }

/-- Several offers in order. -/
def storedAll (q : ReportQueue) (rs : List Record) : ReportQueue := rs.foldl stored q

/-! ### Rows in order -/

/-- No event of an earlier instant is still due: the model's order of instants (log 3). -/
def nothingDue (s : State) : Prop := settle s = s

/-- The state that commands lead to, one behind the other. -/
def afterRows (cs : List Instr) (s : State) : State :=
  cs.foldl (fun t c => match exec c t with | .next u => u | _ => t) s

/-- The rows of an epoch's own events, in the model's order (log 3). -/
def epochRows : List Instr :=
  [.lock, .founder] ++ stations.map .peerAbsent ++ stations.map .shareImbalance ++ [.gateTimeout, .faultRecord] ++
    stations.map .tagMismatch ++ [.overload, .outOfTolerance]

/-- The state `t` that what is still due leads to: the rows of the sample's events with the completion and the starts of
cues, a MEAS_LOST held back, and the rows of the epoch's events; the order is the model's (log 3). -/
def settledTo (s t : State) : Prop :=
  let ended := afterRows [.pendingTransitionClose, .rampEnd, .flickerChange, .clampEnd, .stopCompletion] (noteCompletion s)
  let started := afterRows (List.replicate 33 .cueStart) (completeCue ended)
  t = afterRows epochRows (passLoss (finishWord started))

/-- The sample of the coming epoch is still to be taken, with nothing due before it; or it has been taken with an
activation of its instant, and left no MEAS_LOST (log 1). -/
def epochReady (s : State) : Prop :=
  (s.pll.taken = .none ∧ nothingDue s) ∨
    (s.pll.taken = .epoch ∧ s.pll.acc = {} ∧ s.pll.adv = 0 ∧ s.meas.lossDue = false)

/-! ### Host frames -/

/-- The thirteen commands without payload (R179), as their constructors. -/
def bareCommands : List (List Byte → Instr) :=
  [.status, .flush, .join, .leave, .arm, .disarm, .abort, .clearFault, .clearLoss, .peers, .alertNext,
   .alertDone, .reset]

/-- The five commands with payload. -/
def loadedCommands : List (List Byte → Instr) := [.setup, .hset, .cue, .take, .alertSet]

/-! ### Ranges (R2, R3, R186) -/

/-- R186: the range of each setup field. -/
def setupFieldOk (x : Setup) (i : Nat) : Prop :=
  match i with
  | 0 => 4000 ≤ x.nominal ∧ x.nominal ≤ 7000
  | 1 => 1 ≤ x.groupSize ∧ x.groupSize ≤ 8
  | 2 => x.phaseOffset ≤ 3599
  | 3 => 1 ≤ x.gateLimit ∧ x.gateLimit ≤ 250
  | 4 => x.tolerance ≤ 200
  | 5 => x.missLimit ≤ 255
  | 6 => x.checkSkip ≤ 3
  | 7 => 10 ≤ x.currentLimit ∧ x.currentLimit ≤ 300
  | 8 => 1 ≤ x.limitHold ∧ x.limitHold ≤ 200
  | 9 => x.shareLimit ≤ 1000
  | 10 => x.watermark ≤ 31
  | 11 => x.ratio = 64 ∨ x.ratio = 128 ∨ x.ratio = 256
  | 12 => 1 ≤ x.breakGap ∧ x.breakGap ≤ 20
  | _ => True

/-- Each setup field fits the bytes R193 gives it. -/
def setupFits (x : Setup) : Prop :=
  x.nominal < 65536 ∧ x.groupSize < 256 ∧ x.phaseOffset < 65536 ∧ x.gateLimit < 256 ∧ x.tolerance < 256 ∧
    x.missLimit < 256 ∧ x.checkSkip < 256 ∧ x.currentLimit < 65536 ∧ x.limitHold < 256 ∧ x.shareLimit < 65536 ∧
    x.watermark < 256 ∧ x.ratio < 65536 ∧ x.breakGap < 256

/-- An optional field is present exactly when `p` holds, and in its range. -/
def presentIff (p : Prop) (o : Option Nat) (lo hi : Nat) : Prop :=
  (o.isSome = true ↔ p) ∧ ∀ v, o = some v → lo ≤ v ∧ v ≤ hi

/-- R2, R3, R5, R6: a valid cue record. -/
def validCue (sets : List HarmonicSet) (c : Cue) : Prop :=
  c.tag ≤ 65534 ∧
  ((c.kind = .freq ∨ c.kind = .endRun) → c.gate = .group ∧ c.startAngle = none) ∧
  c.startAngle.isSome = c.angleRef.isSome ∧ (∀ v, c.startAngle = some v → v ≤ 3599) ∧
  ((c.kind = .level ∨ c.kind = .ramp ∨ c.kind = .flicker) → c.ampA.isSome = true) ∧
  (c.kind = .endRun → c.ampA = none) ∧ (∀ v, c.ampA = some v → v ≤ 1500) ∧
  presentIff (c.kind = .flicker) c.ampA2 0 1500 ∧
  presentIff (c.kind ≠ .endRun) c.duration 0 65535 ∧
  presentIff (c.kind = .ramp) c.rampLength 1 65535 ∧
  (∀ n l, c.duration = some n → c.rampLength = some l → n ≠ 0 → l ≤ n) ∧
  (c.phaseDelta.isSome = true ↔ c.kind = .phase) ∧ (∀ d, c.phaseDelta = some d → -1800 ≤ d ∧ d ≤ 1800) ∧
  presentIff (c.kind = .freq) c.frequency 4000 7000 ∧
  presentIff (c.kind = .flicker) c.rate 1 2400 ∧
  (c.harmonicSet.isSome = true ↔ c.kind = .harmonic) ∧
  (∀ n, c.harmonicSet = some (.set n) → n ≤ 7 ∧ (sets.getD n {}).entries ≠ []) ∧
  (c.switchMode.isSome = true ↔ c.kind = .gap) ∧
  (c.kind = .endRun → c.check = false ∧ c.tolerance = none) ∧ (∀ v, c.tolerance = some v → v ≤ 200)

/-- R3: the kinds that must carry field `i`; the angle reference follows the start angle. -/
def mustCarry (k : CueKind) (angle : Bool) (i : Nat) : Prop :=
  match i with
  | 2 | 14 => True
  | 4 => angle = true
  | 5 => k = .level ∨ k = .ramp ∨ k = .flicker
  | 6 | 11 => k = .flicker
  | 7 => k ≠ .endRun
  | 8 => k = .ramp
  | 9 => k = .phase
  | 10 => k = .freq
  | 12 => k = .harmonic
  | 13 => k = .gap
  | _ => False

/-- R3: the kinds that must not carry field `i`. -/
def mustLack (k : CueKind) (angle : Bool) (i : Nat) : Prop :=
  match i with
  | 3 => k = .freq ∨ k = .endRun
  | 4 => angle = false
  | 5 | 15 => k = .endRun
  | 6 | 7 | 8 | 9 | 10 | 11 | 12 | 13 => ¬ mustCarry k angle i
  | _ => False

/-- R2, R5, R6: a value that field `i` may hold, the duration and the sets at hand; a phase delta is in two's
complement. -/
def mayHold (sets : List HarmonicSet) (k : CueKind) (duration : Option Nat) (i v : Nat) : Prop :=
  match i with
  | 2 => v = 0 ∨ (v = 1 ∧ k ≠ .freq ∧ k ≠ .endRun)
  | 3 => v ≤ 3599
  | 4 | 13 => v ≤ 1
  | 5 | 6 => v ≤ 1500
  | 8 => 1 ≤ v ∧ (k = .ramp → ∀ n, duration = some n → n ≠ 0 → v ≤ n)
  | 9 => v ≤ 1800 ∨ 63736 ≤ v
  | 10 => 4000 ≤ v ∧ v ≤ 7000
  | 11 => 1 ≤ v ∧ v ≤ 2400
  | 12 => v = 255 ∨ (v ≤ 7 ∧ (sets.getD v {}).entries ≠ [])
  | 14 => v = 0 ∨ (v = 1 ∧ k ≠ .endRun)
  | 15 => v ≤ 200
  | _ => True

/-- R4: field `i`, from 2 on, of a record of kind `k` passes its tests. -/
def fieldPasses (sets : List HarmonicSet) (k : CueKind) (raw : List (Option Nat)) (i : Nat) : Prop :=
  (mustCarry k (rawAt raw 3).isSome i → rawAt raw i ≠ none) ∧ (mustLack k (rawAt raw 3).isSome i → rawAt raw i = none) ∧
    ∀ v, rawAt raw i = some v → mayHold sets k (rawAt raw 7) i v

/-- R193: sixteen fields, each within the bytes of its size. -/
def fieldsFit (raw : List (Option Nat)) : Prop :=
  raw.length = 16 ∧ ∀ i v, rawAt raw i = some v → v < 256 ^ fieldSize i

/-- R193: the payload that spells sixteen fields. -/
def recordPayload (raw : List (Option Nat)) : List Byte := u16 (maskOf 0 raw) ++ rawBytes 0 raw

/-- R132: the entries of a valid harmonic set. -/
def validEntries (es : List HarmonicEntry) : Prop :=
  es.length ≤ 12 ∧ (es.map HarmonicEntry.order).Nodup ∧
    ∀ e ∈ es, 2 ≤ e.order ∧ e.order ≤ 50 ∧ e.amplitude ≤ 3000 ∧ e.phase ≤ 3599

/-- R132: an entry with its three items in range. -/
def entryInRange (e : HarmonicEntry) : Prop := 2 ≤ e.order ∧ e.order ≤ 50 ∧ e.amplitude ≤ 3000 ∧ e.phase ≤ 3599

/-- R193: the items of an entry fit their bytes. -/
def entryFits (e : HarmonicEntry) : Prop := e.order < 256 ∧ e.amplitude < 65536 ∧ e.phase < 65536

/-- R193: an HSET payload. -/
def hsetPayload (n : Nat) (es : List HarmonicEntry) : List Byte :=
  u8 n ++ u8 es.length ++ es.flatMap (fun e => u8 e.order ++ u16 e.amplitude ++ u16 e.phase)

/-- R91, R96: a frame whose fields lie in their sets. -/
def validFrame (f : PeerFrame) : Prop :=
  f.state ≠ .config ∧ f.lock = true ∧ (∀ v, f.gateTag = some v → v ≤ 65534) ∧
    (∀ v, f.activeTag = some v → v ≤ 65534) ∧ (∀ v, f.vRms = some v → v ≤ 2000) ∧
    (∀ v, f.iRms = some v → v ≤ 4000) ∧ 1 ≤ f.groupSize ∧ f.groupSize ≤ 8 ∧ 4000 ≤ f.nominal ∧ f.nominal ≤ 7000

/-- R61: the tag mismatch count of a station at the gate after one of its frames. -/
def tagCountAfter (s : State) (f : PeerFrame) : Nat :=
  let raised := min 2 (s.group.tagCounts.getD f.number.val 0 + 1)
  let differs := decide (f.gateTag ≠ none) && decide (f.gateTag ≠ s.cue.queue.head?.map Cue.tag)
  if s.state = .run then
    if (s.entry f.number).member then (if differs then raised else 0) else s.group.tagCounts.getD f.number.val 0
  else if decide (f.state = .armed) && differs then raised
  else 0

/-- R193: an ALERT_SET payload. -/
def alertPayload (enable : BitVec 14) (prio : List Nat) (threshold : Nat) : List Byte :=
  u16 enable.toNat ++ prio.map (BitVec.ofNat 8) ++ u8 threshold

/-! ### Fault entry (R113 to R116) -/

/-- R31: the CUE_END of the active cue as it stands: the half-cycles of R25, the check record of R156, the clipped count
of R127; a cue that never started carries its activation run cycle and no angle, an END cue that ends DONE check counts
of 0 (R45). -/
def endRecord (s : State) (a : ActiveCue) (o : CueOutcome) : Record :=
  let r : CheckRecord := match s.meas.span with | some sp => sp.record | none => {}
  .cueEnd {
    tag := a.cue.tag
    kind := a.cue.kind
    outcome := o
    startCycle := match a.startCycle with | some c => c | none => a.activationCycle
    startAngle := a.startAngle
    halfCycles := min 4294967295 (a.advance / 1800)
    checked := r.checked
    missed := r.missed
    limited := if a.cue.kind = .endRun ∧ o = .done then 0 else r.limited
    clipped := if a.phase = .running then s.synth.clipped else 0
    worst := r.worst
    minV := r.minV
    maxV := r.maxV }

/-- R107: the Fault Unit's state set at an entry. -/
def episodeOf (c : FaultCause) (s : State) : FaultUnit where
  cause := some c
  fltLow := true
  stopComplete := decide (s.state ≠ .run)
  onset := s.group.runCycle
  epochs := 0
  secondary := 0
  cutTag := s.cue.active.map (fun a => a.cue.tag)
  discarded := s.cue.queue.length
  origin := if c = .groupFault then none else some s.straps.number
  offered := false

/-- The ended counter after the cut of the active cue, if there is one. -/
def endedAfterCut (s : State) : Count32 := s.cue.ended + (if s.cue.active.isSome = true then 1 else 0)

/-- R114: the records of an entry: the cut cue's CUE_END, then RUN_END when it is from RUN. -/
def entryRecords (s : State) : List Record :=
  (match s.cue.active with
   | some a => [endRecord s a .cut]
   | none => []) ++
  (if s.state = .run then [.runEnd .fault s.group.runCycle (endedAfterCut s - s.group.endedAtOpen)] else [])

/-- The measurement of the half-cycle in progress goes on through a fault entry. -/
def measuresOn (m n : Meas) : Prop :=
  n.running = m.running ∧ n.v = m.v ∧ n.i = m.i ∧ n.heldV = m.heldV ∧ n.heldI = m.heldI ∧
    n.heldLimiting = m.heldLimiting ∧ n.lost = m.lost ∧ n.overloadRun = m.overloadRun ∧
    n.hc.irregular = m.hc.irregular ∧ n.hc.limited = m.hc.limited ∧ n.hc.freqChange = m.hc.freqChange

/-- R115: the stop that an entry from RUN asks for, or that goes on. -/
def stopAsked (s t : State) : Prop :=
  t.synth.stop = true ∧
    (s.synth.stop = false → t.sw.sw1 = false ∧ t.sw.pending = none) ∧ (s.synth.stop = true → t.sw = s.sw)

/-- A fault entry with cause `c` leads from `s` to `t`, the Command Port apart. -/
def faultEntered (c : FaultCause) (s t : State) : Prop :=
  t.state = .fault ∧ t.fault = episodeOf c s ∧
  t.cue = { s.cue with
    queue := [], active := none, ended := endedAfterCut s
    discarded := s.cue.discarded + BitVec.ofNat 32 s.cue.queue.length, deferredGap := none, handover := .none } ∧
  t.group = { s.group with
    drive := .notDriven, pulse := false, timerOn := false, tagCounts := List.replicate 8 0 } ∧
  t.pll = { s.pll with pendingFreq := none } ∧
  t.report = storedAll s.report (entryRecords s) ∧
  onlyFlags s.alert t.alert ∧ isFlagged 0 t.alert ∧
  (s.cue.active.isSome = true → isFlagged 10 t.alert) ∧ (s.cue.queue ≠ [] → isFlagged 8 t.alert) ∧
  (s.state = .run → isFlagged 11 t.alert ∧ stopAsked s t) ∧ (s.state ≠ .run → t.sw = s.sw ∧ t.synth.stop = s.synth.stop) ∧
  t.synth.envelope = s.synth.envelope ∧ t.synth.activeSet = s.synth.activeSet ∧
  t.synth.stepOffset = s.synth.stepOffset ∧ t.synth.sets = s.synth.sets ∧ t.synth.clamp = s.synth.clamp ∧
  t.synth.word = s.synth.word ∧ t.synth.flicker = none ∧ measuresOn s.meas t.meas ∧
  (s.cue.active.isSome = true → t.meas.span = none) ∧
  t.peer = { s.peer with table := s.peer.table.map (fun e =>
    if s.state = .run then { e with shareRun := 0, shareReported := false, shared := none } else e) } ∧
  t.setup = s.setup ∧ t.straps = s.straps ∧ t.lines = s.lines ∧ t.inReset = s.inReset ∧ t.pending = s.pending

/-- R108, R112: a cause is passed in `s`: a fault entry where it applies, one more secondary cause in FAULT, and nothing
elsewhere. -/
def causePassed (c : FaultCause) (applies : Prop) (s t : State) : Prop :=
  (applies → faultEntered c s t ∧ t.port = s.port) ∧
  (s.state = .fault → t = { s with fault := { s.fault with secondary := min 255 (s.fault.secondary + 1) } }) ∧
  (¬ applies → s.state ≠ .fault → t = s)

/-! ### Samples, cue starts and completions -/

/-- R34, R154: the measurement with the span closed. -/
def spanClosed (m : Meas) : Meas := { m with span := none, hc := { m.hc with whole := false, rampOver := false } }

/-- R38: the Synthesizer after the end of a cue. -/
def synthEnded (c : Cue) (y : Synth) : Synth :=
  if c.kind = .flicker then { y with envelope := c.ampA.getD y.envelope, flicker := none, flickerDue := false } else y

/-- A LOCAL PHASE cue comes to a station in RUN while a cue of the present sample is still to end or to start. -/
def comesLate (c : Cue) (s : State) : Prop :=
  s.state = .run ∧ c.kind = .phase ∧ c.gate = .localCue ∧ (completionDue s = true ∨ startDue s = true)

/-- R43: the GAP end that a superseded cue leaves to its successor. -/
def gapDeferred (c : Cue) (d : Option SwitchMode) : Option SwitchMode := if c.kind = .gap then c.switchMode else d

/-- R75: an angle lies on the arc of length `arc` that ends at `now`, its start excluded. -/
def onArc (x now arc : Nat) : Prop := ∃ d, d < arc ∧ (x + d) % 3600 = now % 3600

/-- R23: the start angle of a cue, if it has one, is reached at the present sample. -/
def angleReached (c : Cue) (s : State) : Prop :=
  ∀ x, c.startAngle = some x → onArc x (if c.angleRef = some .system then s.pll.sysAngle else waveAngle s) s.pll.arc

/-- R22, R23: nothing but its activation sample keeps a cue that waits from its start sample; a FREQ cue starts at its
epoch (R86). -/
def startReached (a : ActiveCue) (s : State) : Prop := a.cue.kind ≠ .freq ∧ angleReached a.cue s

/-- R21, R154: a cue as it enters RUNNING, at a run cycle and an angle. -/
def begun (a : ActiveCue) (cycle : Count32) (angle : Nat) : ActiveCue :=
  { a with phase := .running, startCycle := some cycle, startAngle := some angle, advance := 0 }

/-- R154: the span that a cue opens. -/
def spanOf (c : Cue) : Span where
  kind := c.kind
  check := c.check
  tolerance := c.tolerance
  rampEnded := false
  wholeCount := 0
  record := {}

/-- R26, R45: the CUE_END of a duration-0 cue superseded at its start sample. -/
def emptyEnd (c : Cue) (cycle : Count32) (angle : Nat) : Record :=
  .cueEnd {
    tag := c.tag, kind := c.kind, outcome := .done, startCycle := cycle, startAngle := some angle, halfCycles := 0
    checked := 0, missed := 0, limited := 0, clipped := 0, worst := none, minV := none, maxV := none }

/-- R24, R27, R29: what the start of a duration-0 cue makes of queue and active cue: without a head the cue stays, a
GROUP head waits, a LOCAL head supersedes the cue at once. -/
def stationFreed (a : ActiveCue) (cycle : Count32) (angle : Nat) (s t : State) : Prop :=
  (s.cue.queue = [] → (∃ b, t.cue.active = some b ∧ b.cue = a.cue ∧ b.phase = .running) ∧ t.cue.queue = [] ∧
    isFlagged 9 t.alert ∧ t.report = s.report ∧ t.cue.started = s.cue.started ∧ t.cue.ended = s.cue.ended) ∧
  (∀ c cs, s.cue.queue = c :: cs → c.gate = .group →
    (∃ b, t.cue.active = some b ∧ b.cue = a.cue ∧ b.phase = .running) ∧ t.cue.queue = s.cue.queue ∧
    t.report = s.report ∧ t.cue.started = s.cue.started ∧ t.cue.ended = s.cue.ended) ∧
  (∀ c cs, s.cue.queue = c :: cs → c.gate = .localCue →
    (∃ b, t.cue.active = some b ∧ b.cue = c ∧ b.phase = .pendingAngle ∧ b.awaiting = false ∧ b.activationCycle = cycle) ∧
    t.cue.queue = cs ∧ t.cue.started = s.cue.started + 1 ∧ t.cue.ended = s.cue.ended + 1 ∧
    t.cue.accepted = s.cue.accepted ∧ t.cue.discarded = s.cue.discarded ∧
    t.report = stored s.report (emptyEnd a.cue cycle angle) ∧ isFlagged 10 t.alert ∧
    (cs.length ≤ s.setup.watermark → isFlagged 8 t.alert))

/-- R126, R127: the value of the present sample under a clamp, and after the limit of 2000. -/
def valueUnder (clamp : Option Nat) (s : State) : Int :=
  let v := outputValue s.synth (waveAngle s)
  match clamp with
  | none => v
  | some level => limitTo level v

def limitedValue (clamp : Option Nat) (s : State) : Int := limitTo clipValue (valueUnder clamp s)

/-- R126 to R129: the word of the present sample, of what the state then holds. -/
def wordNow (s : State) : BitVec 20 := wordOf (limitedValue s.synth.clamp s)

/-- R127: the sample is clipped. -/
def clips (clamp : Option Nat) (s : State) : Bool := decide (valueUnder clamp s ≠ limitedValue clamp s)

/-- R127: the sample lies in the span of a RUNNING cue, and no stop is under way. -/
def countsClips (s : State) : Bool := s.cue.active.any (fun a => decide (a.phase = .running)) && !s.synth.stop

/-- The word of the sample goes out with the last event due at it (the model's order, log 4). -/
def wordFollows (s t : State) : Prop :=
  t.synth.wordDue = (s.synth.wordDue && sampleBusy t) ∧
  (s.synth.wordDue = true → sampleBusy t = false → outputOn t = true →
    t.synth.word = wordNow t ∧ t.synth.lastValue = (limitedValue t.synth.clamp t).natAbs) ∧
  (s.synth.wordDue = true → sampleBusy t = false → outputOn t = false → t.synth.word = 0 ∧ t.synth.lastValue = 0) ∧
  ((s.synth.wordDue = false ∨ sampleBusy t = true) →
    t.synth.word = s.synth.word ∧ t.synth.lastValue = s.synth.lastValue)

/-- R127, R135: the word of a sample that led from `s` to `t`, its magnitude, and the clipped count, once nothing of the
sample is due. -/
def wordFormed (s t : State) : Prop :=
  t.synth.wordDue = sampleBusy t ∧
  (sampleBusy t = false → outputOn t = true →
    t.synth.word = wordNow t ∧ t.synth.lastValue = (limitedValue s.synth.clamp t).natAbs ∧
    t.synth.clipped = min 4294967295 (s.synth.clipped + (clips s.synth.clamp t && countsClips t).toNat)) ∧
  (sampleBusy t = false → outputOn t = false →
    t.synth.word = 0 ∧ t.synth.lastValue = 0 ∧ t.synth.clipped = s.synth.clipped) ∧
  (sampleBusy t = true → t.synth.word = s.synth.word ∧ t.synth.lastValue = s.synth.lastValue ∧
    t.synth.clipped = s.synth.clipped)

/-- R75, R130, R135, R136: what the crossings of a sample without a phase step that led from `s` to `t` leave due: the
end of a clamp, an armed flicker change, a stop. -/
def crossingLeavesDue (s t : State) : Prop :=
  let crossing := decide (crossings (waveAngle t) t.pll.arc ≠ 0)
  t.synth.clampEndDue = (crossing && s.synth.clamp.isSome) ∧ t.synth.flickerDue = (crossing && armed s.synth) ∧
    t.synth.stopDue = (crossing && s.synth.stop)

/-- No cue, transition, stop, clamp, flicker or run start is in hand. -/
def quiet (s : State) : Prop :=
  s.cue.active = none ∧ s.sw.pending = none ∧ s.synth.stop = false ∧ s.synth.clamp = none ∧
    s.synth.flicker = none ∧ s.synth.runStart = false

/-- The blocks a cue's start and end do not reach. -/
def trunkKept (s t : State) : Prop :=
  t.state = s.state ∧ t.inReset = s.inReset ∧ t.setup = s.setup ∧ t.straps = s.straps ∧ t.lines = s.lines ∧
    t.port = s.port ∧ t.peer = s.peer ∧ t.fault = s.fault ∧ t.pending = s.pending

/-- R139: the switches after the start of a GAP, with no closing due at its sample. -/
def gapStarted (m : SwitchMode) (gap : Nat) (w : Switches) : Switches :=
  match m with
  | .highZ => { w with sw0 := false, pending := none }
  | .lowZ => { w with sw0 := false, pending := some ⟨.sw1, gap⟩ }

/-- R139, R142: the switches after the end of a GAP. -/
def gapEnded (m : SwitchMode) (gap : Nat) (w : Switches) : Switches :=
  match m with
  | .highZ => { w with sw0 := w.sw0 || !w.sw1, pending := none }
  | .lowZ => { w with sw1 := false, pending := some ⟨.sw0, gap⟩ }

/-- R139: the switches after a coincident request. -/
def gapAfterGap (old new : SwitchMode) (gap : Nat) (w : Switches) : Switches :=
  match old, new with
  | .highZ, .lowZ => { w with pending := some ⟨.sw1, gap⟩ }
  | .lowZ, .highZ => { w with sw1 := false, pending := none }
  | _, _ => w

/-- R139, R43: the switches after the start requests of a cue. -/
def switchesStarted (c : Cue) (deferred : Option SwitchMode) (gap : Nat) (w : Switches) : Switches :=
  match deferred, (if c.kind = .gap then c.switchMode else none) with
  | none, none => w
  | none, some m => gapStarted m gap w
  | some old, none => gapEnded old gap w
  | some old, some m => gapAfterGap old m gap w

/-- R34 to R44, R154: what the start requests of a cue, made at the present sample, leave: the open span, and what its
kind asks of the Synthesizer and the Switch Unit, a deferred GAP end first. -/
def startsMade (a : ActiveCue) (s t : State) : Prop :=
  t.cue = { s.cue with
    deferredGap := none
    active := some { begun a s.group.runCycle (waveAngle s) with
      rampFrom := if a.cue.kind = .ramp then s.synth.envelope else a.rampFrom
      stopRequested := decide (a.cue.kind = .endRun) || a.stopRequested } } ∧
  t.meas.span = some (spanOf a.cue) ∧
  t.synth.envelope = (if a.cue.kind = .ramp ∨ a.cue.kind = .endRun then s.synth.envelope
    else a.cue.ampA.getD s.synth.envelope) ∧
  t.synth.activeSet = (if a.cue.kind = .harmonic then a.cue.harmonicSet.getD .none else s.synth.activeSet) ∧
  t.synth.stepOffset = (if a.cue.kind = .phase ∧ a.cue.phaseDelta.getD 0 ≠ 0
    then ((s.synth.stepOffset + a.cue.phaseDelta.getD 0) % 3600).toNat else s.synth.stepOffset) ∧
  t.synth.stop = (s.synth.stop || decide (a.cue.kind = .endRun)) ∧
  (a.cue.kind = .flicker → t.synth.flicker =
    some { a := a.cue.ampA.getD 0, a2 := a.cue.ampA2.getD 0, armed := false }) ∧
  (a.cue.kind ≠ .flicker → a.cue.kind ≠ .endRun → t.synth.flicker = s.synth.flicker) ∧
  t.synth.sets = s.synth.sets ∧ (s.synth.clampAsked = false → t.synth.clamp = s.synth.clamp) ∧
  t.synth.clipped = (s.synth.wordDue && !sampleBusy t && outputOn t && clips s.synth.clamp t && !t.synth.stop).toNat ∧
  (a.cue.kind = .phase → a.cue.phaseDelta.getD 0 ≠ 0 → t.meas.hc.irregular = true) ∧
  (a.cue.kind ≠ .endRun → closeDue s = false →
    t.sw = switchesStarted a.cue s.cue.deferredGap s.setup.breakGap s.sw) ∧
  (a.cue.kind = .endRun → s.cue.deferredGap = none → s.synth.stop = false → closeDue s = false →
    t.sw = { s.sw with sw1 := false, pending := none } ∧ t.synth.runStart = false)

/-! ### The gate -/

/-- R110: TK_FLT is high as a station that releases it sees it. -/
def fltHighSeen (s : State) : Prop := s.lines.fltHigh = true ∧ s.fault.fltLow = false

/-- 03, "The Gate Line": ARMED, or free in RUN, with a GROUP head. -/
def standsAtGate (s : State) : Prop :=
  (∃ c cs, s.cue.queue = c :: cs ∧ c.gate = .group) ∧
    (s.state = .armed ∨ (s.state = .run ∧ ∀ a, s.cue.active = some a → a.phase = .running ∧ a.cue.duration = some 0))

/-- R56: the stations armed for a tag, the station itself counted. -/
def armedFor (tag : Nat) (s : State) : Nat :=
  1 + (stations.filter (fun n => decide (n ≠ s.straps.number) && (s.entry n).present &&
    (match (s.entry n).frame with
     | some f => decide (f.state = .armed) && decide (f.gateTag = some tag)
     | none => false))).length

/-- R55, R56: the station is at the gate and ready for its head's tag. That the own entry is not read for RUN in ARMED is
the model's reading (log 19). -/
def readyAtGate (s : State) : Prop :=
  standsAtGate s ∧ fltHighSeen s ∧ ∀ c cs, s.cue.queue = c :: cs →
    (s.state = .run → ∀ n f, n ≠ s.straps.number → (s.entry n).member = true → (s.entry n).present = true →
      (s.entry n).frame = some f → f.gateTag = none ∨ f.gateTag = some c.tag) ∧
    (s.state = .armed → s.pll.sync = .locked ∧ s.setup.groupSize ≤ armedFor c.tag s ∧
      ∀ n f, n ≠ s.straps.number → (s.entry n).present = true → (s.entry n).frame = some f → f.state ≠ .run)

/-- R53, R55, R56, R58, R60, R61: readiness has been judged in `t`, where the Group Controller stood as `g` before. In
ARMED and RUN the tag counts are 0 away from the gate; outside a gate pulse TK_GATE is released where the station is
ready, a new release beginning a wait at 0, and held low where it is not, with the timer stopped. Elsewhere nothing
moves. -/
def gateJudged (g : Group) (t : State) : Prop :=
  (t.state ≠ .armed → t.state ≠ .run → t.group = g) ∧
  ((t.state = .armed ∨ t.state = .run) →
    t.group = { g with
      drive := t.group.drive, timer := t.group.timer, timerOn := t.group.timerOn, tagCounts := t.group.tagCounts } ∧
    (standsAtGate t → t.group.tagCounts = g.tagCounts) ∧
    (¬ standsAtGate t → t.group.tagCounts = List.replicate 8 0) ∧
    (g.pulse = true → t.group.drive = g.drive ∧ t.group.timer = g.timer ∧ t.group.timerOn = g.timerOn) ∧
    (g.pulse = false → readyAtGate t → t.group.drive = .released ∧
      (g.drive = .released → t.group.timer = g.timer ∧ t.group.timerOn = g.timerOn) ∧
      (g.drive ≠ .released → t.group.timer = 0 ∧ t.group.timerOn = true)) ∧
    (g.pulse = false → ¬ readyAtGate t →
      t.group.drive = .heldLow ∧ t.group.timer = g.timer ∧ t.group.timerOn = false))

/-! ### The own peer frame -/

/-- R76, R89: the own slot, not slot 0, begins at a sample of the Phase Lock Unit `p`. -/
def slotBegins (p : PhaseLock) (s : State) : Prop :=
  s.straps.number ≠ 0 ∧ onArc (s.straps.number.val * 450) p.sysAngle p.arc

/-- R89, R91, R95: where `begins` the transmitter has begun the frame `f` and the receiver reads nothing; elsewhere both
are as they were. -/
def frameBegun (begins : Prop) (f : PeerFrame) (s t : State) : Prop :=
  t.peer.barred = s.peer.barred ∧ (begins → t.peer.tx = some f ∧ t.peer.rx = .muted) ∧
    (¬ begins → t.peer.tx = s.peer.tx ∧ t.peer.rx = s.peer.rx)

/-- R89: at the begin of its slot a station that is LOCKED and not barred begins its frame. -/
def sends (s : State) : Prop := s.pll.sync = .locked ∧ s.peer.barred = false

/-- R89, R91: the frame of a sample that led from `s` to `t`, where the own slot begins there. -/
def sampleSends (f : PeerFrame) (s t : State) : Prop := frameBegun (slotBegins t.pll s ∧ sends s) f s t

/-- R91: the frame of a station in `s`, with the half-cycle that has closed at the sample on which it is formed (log
40). -/
def frameAtSample (s t : State) : PeerFrame := ownFrame { s with meas := t.meas }

/-! ### Layouts (R194) -/

/-- A number in so many bytes, the most significant first. -/
def numberBytes (field : Nat × Nat) : List Byte :=
  (List.range field.1).map (fun i => BitVec.ofNat 8 (field.2 / 256 ^ (field.1 - 1 - i)))

/-- R194: the sizes and values of an optional field. -/
def optField (o : Option Nat) : List (Nat × Nat) :=
  match o with
  | none => []
  | some v => [(2, v)]

/-- R194, R191: the kind code of a record, and the sizes and values of its fields in order. -/
def recordLayout : Record → Nat × List (Nat × Nat)
  | .runStart roster tag => (1, [(1, roster.length)] ++ roster.map (fun n => (1, n.val)) ++ [(2, tag)])
  | .cueEnd r => (2,
      [(2, r.tag), (1, r.kind.code), (1, if r.outcome = .done then 0 else 1),
       (1, (if r.startAngle.isSome then 1 else 0) + (if r.worst.isSome then 2 else 0) + (if r.minV.isSome then 4 else 0)),
       (4, r.startCycle.toNat)] ++ optField r.startAngle ++
      [(4, r.halfCycles), (4, r.checked), (4, r.missed), (4, r.limited), (4, r.clipped)] ++
      optField (r.worst.map (fun d => (d % 65536).toNat)) ++ optField r.minV ++ optField r.maxV)
  | .runEnd reason cycles cues => (3, [(1, if reason = .endCue then 0 else 1), (4, cycles.toNat), (4, cues.toNat)])
  | .fault r => (4, [(1, r.cause.code), (1, match r.origin with | some n => n.val | none => 255), (4, r.onset.toNat),
      (2, r.cutTag.getD 65535), (1, r.discarded), (1, r.secondary)])
  | .peerArrived n => (5, [(1, 0), (1, n.val)])
  | .peerAbsent n => (5, [(1, 1), (1, n.val)])
  | .peerMismatch n g f => (5, [(1, 2), (1, n.val), (1, g), (2, f)])
  | .peerShare n own peer => (5, [(1, 3), (1, n.val), (2, own), (2, peer)])
  | .loss n => (6, [(1, n)])

/-- R145: the number of ways of writing `j` as the sum of three whole numbers each from 0 to `ratio` - 1. -/
def waysOf (ratio j : Nat) : Nat :=
  ((List.range ratio).flatMap (fun a => (List.range ratio).flatMap (fun b =>
    (List.range ratio).filter (fun c => a + b + c = j)))).length

/-- `n` is the nearest whole number to the root of `num / den`, a half up. -/
def nearestRoot (n num den : Nat) : Prop :=
  (n = 0 ∨ (2 * n - 1) ^ 2 * den ≤ 4 * num) ∧ 4 * num < (2 * n + 1) ^ 2 * den

/-! ### Half-cycles -/

/-- R150: a channel produced no result in the half-cycle that closes. -/
def isLost (m : Meas) : Bool := decide (m.v.produced = 0) || decide (m.i.produced = 0)

/-- R150: neither lost nor unsettled. -/
def isSettled (m : Meas) : Bool := !isLost m && decide (m.v.discarded = 0) && decide (m.i.discarded = 0)

/-- R154: the kind of the span's cue admits a check. -/
def kindAdmitsCheck (k : CueKind) (rampOver : Bool) : Bool :=
  decide (k = .level) || decide (k = .gap) || decide (k = .phase) || decide (k = .freq) || decide (k = .harmonic) ||
    (decide (k = .ramp) && rampOver)

/-- R154: the half-cycle that closes is checked. -/
def checksAtClose (sp : Span) (s : State) : Bool :=
  s.meas.hc.whole && sp.check && kindAdmitsCheck sp.kind s.meas.hc.rampOver &&
    decide (s.setup.checkSkip < sp.wholeCount + 1) && isSettled s.meas && !s.meas.hc.irregular &&
    !s.meas.hc.limited && !s.meas.hc.switchChange && !s.meas.hc.freqChange

/-- R155: measured less expected V RMS. -/
def deviationAtClose (s : State) : Int :=
  (rmsV s.meas.v : Int) - (if s.sw.sw0 then (s.synth.envelope * activeFactor s.synth + 500) / 1000 else 0 : Nat)

/-- R155: the half-cycle that closes is a miss. -/
def missesAtClose (sp : Span) (s : State) : Bool :=
  checksAtClose sp s && decide (sp.tolerance.getD s.setup.tolerance < (deviationAtClose s).natAbs)

/-- R156: a deviation worse than the worst so far. -/
def worseThan (d : Int) (worst : Option Int) : Bool :=
  match worst with
  | none => true
  | some w => decide (w.natAbs < d.natAbs)

/-- R156: the record of the open span with the half-cycle that closes. -/
def chargedRecord (sp : Span) (s : State) : CheckRecord :=
  let r := sp.record
  let v := rmsV s.meas.v
  { checked := if checksAtClose sp s then min 4294967295 (r.checked + 1) else r.checked
    missed := if checksAtClose sp s then min 4294967295 (r.missed + (missesAtClose sp s).toNat) else r.missed
    limited := min 4294967295 (r.limited + s.meas.hc.limited.toNat)
    worst := if checksAtClose sp s && worseThan (deviationAtClose s) r.worst then some (deviationAtClose s) else r.worst
    minV := if isSettled s.meas then some (match r.minV with | none => v | some x => min x v) else r.minV
    maxV := if isSettled s.meas then some (match r.maxV with | none => v | some x => max x v) else r.maxV }

/-- R157: a miss of this close brings the count to the miss limit, in RUN. -/
def limitMetAtClose (s : State) : Bool :=
  match s.meas.span with
  | none => false
  | some sp => missesAtClose sp s && decide (s.setup.missLimit ≠ 0) &&
      decide ((chargedRecord sp s).missed = s.setup.missLimit) && decide (s.state = .run)

/-- R152: the station still counts as in RUN at the overload step of the close. -/
def stillRuns (s : State) : Bool :=
  decide (s.state = .run) && !s.meas.overloadDue && !s.meas.toleranceDue && !limitMetAtClose s

/-- R153: a limited half-cycle brings the overload run to the limit hold. -/
def holdMetAtClose (s : State) : Bool :=
  stillRuns s && s.meas.hc.limited && decide (s.setup.limitHold ≤ s.meas.overloadRun + 1)

/-- R152, R158: MEAS_LOST is passed at the loss step. -/
def losesAtClose (s : State) : Bool := stillRuns s && !holdMetAtClose s && isLost s.meas

/-- R148, R149: a channel at the begin of the next half-cycle. -/
def channelAfter (lost : Bool) (x : ChannelState) : ChannelState :=
  { x with
    settle := if lost = true ∧ x.produced = 0 then 3 else x.settle
    produced := 0, discarded := 0, settled := 0, sumSq := 0 }

/-- R154: the open span with the half-cycle that closes charged to it. -/
def spanCharged (sp : Span) (s : State) : Span :=
  { sp with wholeCount := sp.wholeCount + s.meas.hc.whole.toNat, record := chargedRecord sp s }

/-- R151, R153, R157, R158: the values of the Measurement Unit that the close of a half-cycle leaves, the span apart. -/
def halfClosed (s : State) (m : Meas) : Prop :=
  m.heldV = (if isSettled s.meas then some (rmsV s.meas.v) else none) ∧
  m.heldI = (if isSettled s.meas then some (rmsI s.meas.i) else none) ∧
  m.heldLimiting = s.meas.hc.limited ∧ m.toleranceDue = (s.meas.toleranceDue || limitMetAtClose s) ∧
  m.overloadRun = (if stillRuns s then
    (if s.meas.hc.limited then min s.setup.limitHold (s.meas.overloadRun + 1) else 0) else s.meas.overloadRun) ∧
  m.overloadDue = (s.meas.overloadDue || holdMetAtClose s) ∧ m.lost = isLost s.meas

/-- R149: the row of a sample whose arc holds no crossing, or one, has closed so many half-cycles. -/
def halfValuesOf (closing : Nat) (s t : State) : Prop :=
  (closing = 0 → t.meas.heldV = s.meas.heldV ∧ t.meas.heldI = s.meas.heldI ∧
    t.meas.heldLimiting = s.meas.heldLimiting ∧ t.meas.toleranceDue = s.meas.toleranceDue ∧
    t.meas.overloadRun = s.meas.overloadRun ∧ t.meas.overloadDue = s.meas.overloadDue ∧ t.meas.lost = s.meas.lost ∧
    t.meas.v = s.meas.v ∧ t.meas.i = s.meas.i ∧ t.meas.hcBegan = false) ∧
  (closing = 1 → halfClosed s t.meas ∧ t.meas.v = channelAfter (isLost s.meas) s.meas.v ∧
    t.meas.i = channelAfter (isLost s.meas) s.meas.i ∧ t.meas.hcBegan = true ∧
    (∀ sp, s.meas.span = some sp → missesAtClose sp s = true → isFlagged 1 t.alert))

/-- R149, R158: the same, with the MEAS_LOST of the close passed in the row. -/
def halfCyclesOf (closing : Nat) (s t : State) : Prop :=
  halfValuesOf closing s t ∧
    (closing = 1 → losesAtClose s = true → t.state = .fault ∧ t.fault.cause = some .measLost)

/-- R154: the open span after the row of a sample that neither starts nor ends a cue. -/
def spanOfSample (closing : Nat) (s t : State) : Prop :=
  t.state = s.state → (closing = 0 → t.meas.span = s.meas.span) ∧
    (closing = 1 → s.meas.span = none → t.meas.span = none) ∧
    (∀ sp, closing = 1 → s.meas.span = some sp → t.meas.span = some (spanCharged sp s))

/-! ### What the row of a sample leaves -/

/-- R39, R75: the phase-step offset that the phase steps of the sample at `p` lead to, if it makes any. -/
def sampleSteps (p : PhaseLock) (s : State) : Option Nat := stepsAhead false (arrive p s)

/-- R75: how many half-cycles close at a sample of a system angle and an arc, under a phase-step offset. -/
def closesAt (angle arc offset : Nat) (s : State) : Nat := crossings ((angle + phaseOffset s + offset) % 3600) arc

/-- R36, R28: the envelope after a sample that makes no request: a RAMP's level on its way, and else unchanged. -/
def envelopeSampled (arc : Nat) (s t : State) : Prop :=
  (∀ a, s.cue.active = some a → a.phase = .running → a.cue.kind = .ramp → a.rampDone = false → t.synth.envelope =
    rampLevel a.rampFrom (a.cue.ampA.getD 0) (a.cue.rampLength.getD 0 * 1800) (a.advance + arc)) ∧
  ((∀ a, s.cue.active = some a → a.phase = .running → a.cue.kind = .ramp → a.rampDone = true) →
    t.synth.envelope = s.synth.envelope)

/-- R140: one sample fewer remains to a pending closing. -/
def transitionCounted (w : Switches) : Switches :=
  { w with pending := w.pending.map (fun x => { x with remaining := x.remaining - 1 }) }

/-- R21, R39, R154: what the row of a sample leaves at which a PHASE cue starts, its step leading to an offset. -/
def phaseStarted (a : ActiveCue) (offset : Nat) (s t : State) : Prop :=
  t.synth.stepOffset = offset ∧
  t.cue = { s.cue with
    deferredGap := none, handover := .none
    active := some (begun { a with
      awaiting := false
      activationCycle := if a.awaiting = true then t.group.runCycle else a.activationCycle }
      t.group.runCycle (waveAngleAt t s.synth.stepOffset)) } ∧
  t.meas.span = some (spanOf a.cue) ∧ t.meas.hc.irregular = true ∧ t.synth.activeSet = s.synth.activeSet ∧
  t.synth.envelope = a.cue.ampA.getD s.synth.envelope ∧
  (s.cue.deferredGap = none → s.synth.clampAsked = false → t.synth.wordDue = false ∧ t.synth.word = wordNow t)

/-- R26, R31, R154: the CUE_END of the open cue `b` that ends at the coming sample has the advance of its arc and the
half-cycle that closes there; its span closes, and FLICKER returns to A. -/
def endedAtComing (b : ActiveCue) (closing : Nat) (s t : State) : Prop :=
  (closing = 0 → t.report = stored s.report (endRecord s { b with advance := b.advance + t.pll.arc } .done)) ∧
  (∀ sp, closing = 1 → s.meas.span = some sp → t.report = stored s.report (endRecord
    { s with meas := { s.meas with span := some { sp with record := chargedRecord sp s } } }
    { b with advance := b.advance + t.pll.arc } .done)) ∧
  isFlagged 10 t.alert ∧ onlyFlags s.alert t.alert ∧
  (b.cue.kind = .flicker → t.synth.flicker = none)

/-- R73, R74, R65: the coming sample, a SAMPLE's or an EPOCH's, is taken in the row of an activation of its instant; its
own row is still to come (log 1). -/
def sampleTaken (s t : State) : Prop :=
  (∀ p, nextSample s.pll = some p → t.group.runCycle = s.group.runCycle ∧
    t.pll = { p with taken := .sample, pendingFreq := t.pll.pendingFreq }) ∧
  (nextSample s.pll = none → t.group.runCycle = s.group.runCycle + 1 ∧ t.pll = { epochSample s.pll with
    atEpoch := false, taken := .epoch, pendingFreq := t.pll.pendingFreq }) ∧
  t.state = s.state ∧ t.fault = s.fault ∧ t.setup = s.setup ∧ t.straps = s.straps ∧ t.peer.table = s.peer.table ∧
  sampleSends (frameAtSample s t) s t

/-- R20, R26, R154: what an opening or an append of the coming sample's instant leaves, where no phase step is made
there: the open cue `b` has ended at that sample, which is the activation sample of the head `c`; what its crossing
leaves due and its word. A MEAS_LOST of its close waits for the sample's own row. -/
def handedOver (b : ActiveCue) (c : Cue) (cs : List Cue) (s t : State) : Prop :=
  let closing := closesAt t.pll.sysAngle t.pll.arc s.synth.stepOffset s
  sampleTaken s t ∧ endedAtComing b closing s t ∧ halfValuesOf closing s t ∧
  (∃ a, a.cue = c ∧ a.phase = .pendingAngle ∧ a.awaiting = false ∧ a.activationCycle = t.group.runCycle ∧
    a.startCycle = none ∧ a.startAngle = none ∧
    t.cue = { s.cue with
      queue := cs, started := s.cue.started + 1, ended := s.cue.ended + 1, active := some a, handover := .none
      deferredGap := if c.kind = .endRun then none else gapDeferred b.cue s.cue.deferredGap }) ∧
  t.pll.pendingFreq = (if c.kind = .freq then c.frequency else s.pll.pendingFreq) ∧
  t.meas.span = none ∧ (cs.length ≤ s.setup.watermark → isFlagged 8 t.alert) ∧
  (closing = 0 → t.meas.lossDue = s.meas.lossDue) ∧
  (closing = 1 → t.meas.lossDue = (s.meas.lossDue || losesAtClose s)) ∧
  (b.cue.kind = .flicker → t.synth.envelope = b.cue.ampA.getD s.synth.envelope) ∧
  (b.cue.kind ≠ .flicker → envelopeSampled t.pll.arc s t) ∧
  t.synth.stepOffset = s.synth.stepOffset ∧ t.synth.activeSet = s.synth.activeSet ∧ t.sw = transitionCounted s.sw ∧
  crossingLeavesDue { s with synth := synthEnded b.cue s.synth } t ∧ wordFormed s t

/-- R20, R26, R39: the same, where the head `c` is a PHASE cue whose start sample is that same sample: the cue is RUNNING
with its step made, on which the crossings lie. -/
def handedOverStepping (b : ActiveCue) (c : Cue) (cs : List Cue) (offset : Nat) (s t : State) : Prop :=
  sampleTaken s t ∧
  endedAtComing b (closesAt t.pll.sysAngle t.pll.arc offset s) s t ∧
  halfValuesOf (closesAt t.pll.sysAngle t.pll.arc offset s) s t ∧
  t.synth.stepOffset = offset ∧ t.meas.span = some (spanOf c) ∧ t.meas.hc.irregular = true ∧
  (∃ a, a.cue = c ∧ a.activationCycle = t.group.runCycle ∧ t.cue = { s.cue with
    queue := cs, started := s.cue.started + 1, ended := s.cue.ended + 1, handover := .none, deferredGap := none
    active := some (begun a t.group.runCycle (waveAngleAt t s.synth.stepOffset)) })

/-! ### Epochs -/

/-- R79: 3600 less the angle of a fall, rounded down. -/
def wholeLag (f : Angle) : Nat := 3600 - f.whole - (if f.num = 0 then 0 else 1)

/-- R80: the angle elapsed since a fall, with its fraction. -/
def lagAngle (f : Angle) : Angle :=
  { whole := wholeLag f, num := if f.num = 0 then 0 else f.den - f.num, den := f.den }

/-- R80: below the count the station is SEEKING and does not pull; at the count LOCK makes it LOCKED, and it pulls. -/
def locksAt (count : Nat) (t : State) : Prop :=
  (t.pll.lockCount < count → t.pll.sync = .seeking ∧ t.pll.pull = false) ∧
  (t.pll.lockCount = count → ∃ u, exec .lock t = .next u ∧ u.pll.sync = .locked ∧ u.pll.pull = true ∧
    u.pll.lockCount = 0)

/-- R73, R76, R89, R91: the frame of an epoch. That of station 0 is begun behind the judgement, before the frequency
change and the start of a FREQ cue; a slot of another station that the epoch's arc carries past is begun at its sample,
before the judgement (log 40). -/
def epochSends (line : SynLine) (s t : State) : Prop :=
  (s.straps.number = 0 → ∃ f, frameBegun (sends t) f s t ∧
    ((freqWaits s = false ∨ (epochSteps line s = none ∧ t.state ≠ s.state)) → f = ownFrame t) ∧
    (freqWaits s = true → (epochSteps line s ≠ none ∨ t.state = s.state) → f = frameAtSample s t)) ∧
  (s.straps.number ≠ 0 → ∃ f, sampleSends f s t ∧
    ((epochSteps line s ≠ none ∨ t.state = s.state ∨ t.fault.cause = some .syncLost) → f = frameAtSample s t) ∧
    (s.state = .run → t.state = .fault → epochSteps line s = none → t.fault.cause = some .measLost →
      f = { ownFrame t with lock := true }))

/-! ### Invariants -/

/-- Every step keeps a law. -/
def keeps (law : State → Prop) : Prop := ∀ s t, law s → step s = .next t → law t

end Sys2Proof.Claims

section

open Sys2Proof Sys2Proof.Machine Sys2Proof.Claims

/-! ### The queue of commands, resets -/

/-- A step runs the command at the front of the queue on the state with the queue's rest. -/
def Obligations.StepRunsFrontCommand : Prop :=
  ∀ (c : Instr) (rest : List Instr) (s : State), s.pending = c :: rest → step s = exec c { s with pending := rest }

/-- An empty queue idles (the model's choice, log 2). Every command answers a next state in every state, since the spec
has no event that stops the station, and touches no command behind it. -/
def Obligations.QueueIsFirstInFirstOut : Prop :=
  (∀ s : State, s.pending = [] → step s = .next s) ∧
  ∀ (c : Instr) (s : State), ∃ t, exec c s = .next t ∧ t.pending = s.pending

/-- R189's table, on the state right after a power-on reset. Straps, pins and the onset are the model's (logs 6, 7,
15). -/
def Obligations.ResetStateValues : Prop :=
  State.reset.state = .config ∧
  State.reset.setup = { nominal := 5000, groupSize := 1, phaseOffset := 0, gateLimit := 50, tolerance := 20,
                        missLimit := 0, checkSkip := 1, currentLimit := 150, limitHold := 20, shareLimit := 0,
                        watermark := 4, ratio := 128, breakGap := 2 } ∧
  State.reset.cue.queue = [] ∧ State.reset.cue.active = none ∧ State.reset.cue.deferredGap = none ∧
  (State.reset.cue.accepted = 0 ∧ State.reset.cue.started = 0 ∧ State.reset.cue.ended = 0 ∧
    State.reset.cue.discarded = 0) ∧
  (State.reset.group.drive = .notDriven ∧ State.reset.group.timer = 0 ∧ State.reset.group.timerOn = false ∧
    State.reset.group.tagCounts = List.replicate 8 0 ∧ State.reset.group.runCycle = 0 ∧
    State.reset.group.endedAtOpen = 0 ∧ State.reset.roster = []) ∧
  (State.reset.pll.sync = .seeking ∧ State.reset.pll.acc = { whole := 0, num := 0, den := 1 } ∧
    State.reset.pll.runFreq = 5000 ∧ State.reset.pll.pull = false ∧ State.reset.pll.falls = [] ∧
    State.reset.pll.lockCount = 0 ∧ State.reset.pll.silentCount = 0 ∧ State.reset.pll.pendingFreq = none) ∧
  (State.reset.peer.table = List.replicate 8 {} ∧ State.reset.peer.barred = false ∧ State.reset.peer.tx = none ∧
    State.reset.peer.rx = .stopped) ∧
  (State.reset.fault.cause = none ∧ State.reset.fault.fltLow = false ∧ State.reset.fault.stopComplete = true ∧
    State.reset.fault.secondary = 0 ∧ State.reset.fault.epochs = 0 ∧ State.reset.fault.cutTag = none ∧
    State.reset.fault.discarded = 0 ∧ State.reset.fault.origin = none ∧ State.reset.fault.offered = false) ∧
  (State.reset.synth.envelope = 0 ∧ State.reset.synth.activeSet = .none ∧ State.reset.synth.stepOffset = 0 ∧
    State.reset.synth.word = 0 ∧ State.reset.synth.clamp = none ∧ State.reset.synth.stop = false ∧
    State.reset.synth.sets = List.replicate 8 { entries := [], factor := 1000 }) ∧
  (State.reset.sw.sw0 = false ∧ State.reset.sw.sw1 = false ∧ State.reset.sw.pending = none) ∧
  (State.reset.meas.running = false ∧ State.reset.meas.heldV = none ∧ State.reset.meas.heldI = none ∧
    State.reset.meas.heldLimiting = false ∧ State.reset.meas.lost = false ∧ State.reset.meas.overloadRun = 0 ∧
    State.reset.meas.span = none) ∧
  (State.reset.report.records = [] ∧ State.reset.report.lost = false ∧ State.reset.report.lostCount = 0) ∧
  (State.reset.alert.pending = 0 ∧ State.reset.alert.enable = 0 ∧ State.reset.alert.threshold = 0 ∧
    State.reset.alert.prio = [3, 2, 2, 1, 1, 1, 1, 1, 1, 1, 0, 0, 0, 0] ∧ State.reset.alert.stack = []) ∧
  (State.reset.port.frameCuts = 0 ∧ State.reset.port.powerOn = true ∧ State.reset.port.pinFlag = false ∧
    State.reset.port.commandFlag = false)

/-- Every law of the device holds after reset. -/
def Obligations.LawsHoldAtReset : Prop :=
  ShapeLaw State.reset ∧ SwitchLaw State.reset ∧ QueueLaw State.reset ∧ CounterLaw State.reset ∧
  ReportLaw State.reset ∧ StackLaw State.reset ∧ FaultLineLaw State.reset ∧ CauseLaw State.reset ∧
  RosterLaw State.reset ∧ SyncLaw State.reset ∧ GateLaw State.reset ∧ WordLaw State.reset ∧
  EnvelopeLaw State.reset ∧ SetsLaw State.reset ∧ CountLaw State.reset ∧ StopLaw State.reset ∧
  SwitchesOpenLaw State.reset ∧ ResetLaw State.reset ∧ TransmitLaw State.reset

/-! ### The Command Port -/

/-- While a reset lasts, before CSN is seen high after it, and in the frame of a taken RESET (the model's
reading, log 16), no frame is heard. A LEN other than 0 on a command without payload: BAD_LENGTH. Unknown code:
UNKNOWN. A check byte that differs: BAD_CHECK. LEN above 64: BAD_LENGTH. Nothing else changes. The bits on SDI, the most
significant of each byte first, make the row of the command they spell, and the bits behind it are ignored. -/
def Obligations.BadFramesOnlyReply : Prop :=
  (∀ (s : State), (s.inReset = true ∨ s.port.deaf = true ∨ s.port.resetTaken = true) →
     (∀ c ∈ bareCommands ++ loadedCommands, ∀ p, exec (c p) s = .next s) ∧
     (∀ code p, exec (.unknownCommand code p) s = .next s) ∧
     (∀ code p chk, exec (.badCheckFrame code p chk) s = .next s) ∧
     (∀ code len, exec (.lenAbove64 code len) s = .next s) ∧ (∀ n, exec (.commandCut n) s = .next s)) ∧
  ((∀ c ∈ bareCommands, ∀ (p : List Byte) (s : State), s.hears = true → p ≠ [] →
      exec (c p) s = .next (replied .badLength [] s)) ∧
   (∀ s : State, s.hears = true →
      (∀ code p, commandOf code.toNat p = none → exec (.unknownCommand code p) s = .next (replied .unknown [] s)) ∧
      (∀ code p chk, crc8 (code :: BitVec.ofNat 8 p.length :: p) ≠ chk →
        exec (.badCheckFrame code p chk) s = .next (replied .badCheck [] s)) ∧
      (∀ code len, 64 < len.toNat → exec (.lenAbove64 code len) s = .next (replied .badLength [] s)))) ∧
  (∀ (code : Byte) (p : List Byte) (more : List Bool), p.length ≤ 64 →
    readSpan ((commandFrame code p).flatMap byteBits ++ more) =
      (commandOf code.toNat p).getD (.unknownCommand code p)) ∧
  (∀ (code chk : Byte) (p : List Byte) (more : List Bool), p.length ≤ 64 →
    crc8 (code :: BitVec.ofNat 8 p.length :: p) ≠ chk →
    readSpan ((code :: BitVec.ofNat 8 p.length :: p ++ [chk]).flatMap byteBits ++ more) = .badCheckFrame code p chk) ∧
  (∀ (code len : Byte) (more : List Bool), 64 < len.toNat →
    readSpan ([code, len].flatMap byteBits ++ more) = .lenAbove64 code len)

/-- A command cut with at least one edge of SCK counts and makes FRAME_CUT pending; without an edge the span was no
frame and CSN is high after it; a reply cut drops the reply and counts, also where the next frame's row or cut shows
that CSN has risen before it was complete (the model's reading, log 16); without a reply it is no event (the model's
choice, log 5). A span whose bits on SDI end before the command does is a command cut of as many edges; a rise behind
the command is a reply cut up to the last bit of the reply's check byte. -/
def Obligations.CutsAreCounted : Prop :=
  (∀ (n : Nat) (s : State), s.hears = true → n ≠ 0 → exec (.commandCut n) s = .next { risen s with
      port := { (risen s).port with
        reply := none, summary := frameSummary s, stage := .closed
        frameCuts := min 255 ((risen s).port.frameCuts + 1) }
      alert := flagged 13 s.alert }) ∧
  (∀ s : State, s.hears = true →
    exec (.commandCut 0) s = .next { risen s with port := { (risen s).port with stage := .closed } }) ∧
  (∀ s : State, s.port.reply.isSome = true → exec .replyCut s = .next { s with
      port := { s.port with reply := none, stage := .closed, frameCuts := min 255 (s.port.frameCuts + 1) }
      alert := flagged 13 s.alert }) ∧
  (∀ s : State, s.port.reply = none → exec .replyCut s = .next s) ∧
  (∀ bits : List Bool, bits.length < 16 → readSpan bits = .commandCut bits.length) ∧
  (∀ (code len : Byte) (bits : List Bool), len.toNat ≤ 64 → bits.length < 8 * (len.toNat + 1) →
    readSpan ([code, len].flatMap byteBits ++ bits) = .commandCut (16 + bits.length)) ∧
  (∀ (r : Reply) (filler edges : Nat),
    (8 * (filler + r.frame.length) ≤ edges → replyRow r filler edges = .replyComplete) ∧
    (edges < 8 * (filler + r.frame.length) → replyRow r filler edges = .replyCut))

/-- SDO carries the summary byte and zeros under a command, then ones up to the reply, the reply with its check, and
ones behind it, each byte the most significant bit first. The complete reply: TAKE's records leave the head, STATUS
clears the three flags. -/
def Obligations.CompleteReplyTakesEffect : Prop :=
  (∀ (s : State) (r : Reply), s.port.reply = some r → exec .replyComplete s = .next { s with
      report := { s.report with records := s.report.records.drop r.carried }
      port := { s.port with
        reply := none
        powerOn := if r.isStatus then false else s.port.powerOn
        pinFlag := if r.isStatus then false else s.port.pinFlag
        commandFlag := if r.isStatus then false else s.port.commandFlag } }) ∧
  (∀ s : State, s.port.reply = none → exec .replyComplete s = .next s) ∧
  (∀ r : Reply, r.frame = r.result.code :: BitVec.ofNat 8 r.bytes.length :: r.bytes ++
    [crc8 (r.result.code :: BitVec.ofNat 8 r.bytes.length :: r.bytes)]) ∧
  (∀ (p : Port) (k n : Nat),
    (p.stage = .closed → p.sdoBytes k n = []) ∧
    (p.stage = .command → p.sdoBytes k (n + 1) = p.summary :: List.replicate n 0x00#8) ∧
    (∀ r, p.stage = .answering → p.reply = some r →
      p.sdoBytes k (k + r.frame.length + n) = List.replicate k 0xFF#8 ++ r.frame ++ List.replicate n 0xFF#8) ∧
    (p.stage = .answering → p.reply = none → p.sdoBytes k n = List.replicate n 0xFF#8)) ∧
  (∀ s : State, sdoDriven s = true ↔ s.inReset = false ∧ (s.port.deaf = true ∨ s.port.stage ≠ .closed)) ∧
  (∀ (p : Port) (k n : Nat), (p.sdoBits k n).length = 8 * (p.sdoBytes k n).length ∧
    ∀ i < (p.sdoBytes k n).length, ∀ j < 8,
      (p.sdoBits k n).getD (8 * i + j) false = ((p.sdoBytes k n).getD i 0#8).getLsbD (7 - j))

/-- STATUS changes nothing but the reply, formed from the state as it stands, and the 36 bytes of that reply, which hold
no head tag (the model's reading, log 38). -/
def Obligations.StatusOnlyReplies : Prop :=
  (∀ s : State, s.hears = true → exec (.status []) s =
     .next (repliedWith { result := .ok, bytes := statusBytes (risen s), isStatus := true } s)) ∧
  (∀ s : State, s.cue.queue.length ≤ 32 → s.report.records.length ≤ 24 → s.report.lostCount ≤ 255 →
     s.port.frameCuts ≤ 255 → s.pll.runFreq ≤ 7000 → (∀ a, s.cue.active = some a → a.cue.tag ≤ 65534) →
     (statusBytes s).length = 36 ∧ byteAt (statusBytes s) 0 = s.state.code ∧
     byteAt (statusBytes s) 1 = s.pll.sync.code ∧ byteAt (statusBytes s) 2 = s.cue.queue.length ∧
     wordAt (statusBytes s) 3 = (match s.cue.active with | some a => a.cue.tag | none => 65535) ∧
     byteAt (statusBytes s) 5 = s.report.records.length ∧ byteAt (statusBytes s) 6 = s.report.lost.toNat ∧
     byteAt (statusBytes s) 7 = s.report.lostCount ∧ wordAt (statusBytes s) 8 = s.alert.pending.toNat ∧
     byteAt (statusBytes s) 10 =
       (if s.state = .fault ∨ s.state = .recover then causeCode s.fault.cause else 255) ∧
     be (((statusBytes s).drop 11).take 4) = s.cue.accepted.toNat ∧
     be (((statusBytes s).drop 15).take 4) = s.cue.started.toNat ∧
     be (((statusBytes s).drop 19).take 4) = s.cue.ended.toNat ∧
     be (((statusBytes s).drop 23).take 4) = s.cue.discarded.toNat ∧
     be (((statusBytes s).drop 27).take 4) = s.group.runCycle.toNat ∧
     wordAt (statusBytes s) 31 = s.pll.runFreq ∧ byteAt (statusBytes s) 33 = s.peer.barred.toNat ∧
     byteAt (statusBytes s) 34 = s.port.frameCuts ∧
     byteAt (statusBytes s) 35 = s.port.powerOn.toNat + 2 * s.port.pinFlag.toNat + 4 * s.port.commandFlag.toNat)

/-- SETUP in CONFIG replaces all thirteen values at once. Refused: STATE outside CONFIG; index 13 for another length;
else the first field outside its range. -/
def Obligations.SetupReplacesWholeSetup : Prop :=
  (∀ (s : State) (x : Setup), s.hears = true → s.state = .config → (∀ i < 13, setupFieldOk x i) →
     exec (.setup x.payload) s = .next { replied .ok [] s with setup := x }) ∧
  (∀ (s : State) (p : List Byte), s.hears = true → s.state ≠ .config →
    exec (.setup p) s = .next (replied .state [] s)) ∧
  (∀ (s : State) (p : List Byte), s.hears = true → s.state = .config → p.length ≠ 18 →
    exec (.setup p) s = .next (replied .badField [13#8] s)) ∧
  (∀ (s : State) (x : Setup) (i : Nat), s.hears = true → s.state = .config → setupFits x → i < 13 →
    (∀ j < i, setupFieldOk x j) → ¬ setupFieldOk x i →
    exec (.setup x.payload) s = .next (replied .badField [BitVec.ofNat 8 i] s))

/-- RESET is answered OK and waits for its frame's end. The three resets: every block at its reset value; what is kept
is the pins, the queue of commands, the reset-cause flags by kind, and at RESET the harmonic sets. The end of a reset
samples the straps. CSN seen high lets the port listen, closes the frame and cuts a reply under shift; a port that
listens with CSN high takes it as high up to now, so CSN falls and the summary byte is taken (the model's reading, log
17). While a reset lasts, and in the frame of a taken RESET, the row does nothing. -/
def Obligations.ResetsLeaveResetValues : Prop :=
  (∀ s : State, s.hears = true → exec (.reset []) s = .next { replied .ok [] s with
     port := { (replied .ok [] s).port with resetTaken := true } }) ∧
  (∀ s : State, exec .pinReset s = .next { State.reset with
      pending := s.pending, inReset := true, straps := s.straps, lines := s.lines
      port := { deaf := true, powerOn := s.port.powerOn, pinFlag := true, commandFlag := s.port.commandFlag } }) ∧
  (∀ s : State, exec .powerOnReset s = .next { State.reset with
      pending := s.pending, inReset := true, straps := s.straps, lines := s.lines
      port := { deaf := true, powerOn := true } }) ∧
  (∀ s : State, s.port.resetTaken = true → exec .commandReset s = .next { State.reset with
      pending := s.pending, inReset := true, straps := s.straps, lines := s.lines
      port := { powerOn := s.port.powerOn, pinFlag := s.port.pinFlag, commandFlag := true }
      synth := { sets := s.synth.sets } }) ∧
  (∀ s : State, s.port.resetTaken = false → exec .commandReset s = .next s) ∧
  (∀ (id : Fin 8) (csn : Bool) (s : State), s.inReset = true →
    exec (.resetEnd id false false csn) s = .next { s with
      inReset := false, straps := { number := id, phase := .l1 }, port := { s.port with deaf := s.port.deaf && !csn } } ∧
    exec (.resetEnd id false true csn) s = .next { s with
      inReset := false, straps := { number := id, phase := .l2 }, port := { s.port with deaf := s.port.deaf && !csn } } ∧
    exec (.resetEnd id true false csn) s = .next { s with
      inReset := false, straps := { number := id, phase := .l3 }, port := { s.port with deaf := s.port.deaf && !csn } } ∧
    exec (.resetEnd id true true csn) s = .next { s with
      inReset := false, straps := { number := id, phase := .any }, port := { s.port with deaf := s.port.deaf && !csn } }) ∧
  (∀ (id : Fin 8) (ph1 ph0 csn : Bool) (s : State), s.inReset = false →
    exec (.resetEnd id ph1 ph0 csn) s = .next s) ∧
  (∀ s : State, (s.inReset = true ∨ s.port.resetTaken = true) → exec .csnHighSeen s = .next s) ∧
  (∀ s : State, s.inReset = false → s.port.resetTaken = false →
    (s.port.deaf = false → s.port.stage = .closed → exec .csnHighSeen s = .next { s with
      port := { s.port with stage := .command, summary := summaryByte s } }) ∧
    ((s.port.deaf = true ∨ s.port.stage ≠ .closed) → s.port.reply = none → exec .csnHighSeen s = .next { s with
      port := { s.port with deaf := false, stage := .closed } }) ∧
    ((s.port.deaf = true ∨ s.port.stage ≠ .closed) → s.port.reply.isSome = true →
      exec .csnHighSeen s = .next { s with
        port := { s.port with
          deaf := false, stage := .closed, reply := none, frameCuts := min 255 (s.port.frameCuts + 1) }
        alert := flagged 13 s.alert }))

/-! ### Cues and the queue -/

/-- Every valid record is read back from its payload, field by field. -/
def Obligations.CuePayloadRoundTrip : Prop :=
  ∀ (sets : List HarmonicSet) (c : Cue), validCue sets c → parseCue sets c.payload = .ok c

/-- CUE of a valid record with room in the queue: the cue joins the tail. In ARMED and RUN readiness is judged, and
TK_GATE and the gate timer follow it; a free station in RUN takes a LOCAL cue at once (that form is
LocalCueStartsDryStation's). A LOCAL PHASE cue that comes while a cue of the present sample is still to end or to start
is taken behind what that sample has left due (the model's choice, log 36). -/
def Obligations.CueJoinsTail : Prop :=
  (∀ (s : State) (c : Cue), s.hears = true → (s.state = .config ∨ s.state = .enroll) → validCue s.synth.sets c →
     s.cue.queue.length < 32 →
     exec (.cue c.payload) s = .next { replied .ok [BitVec.ofNat 8 (s.cue.queue.length + 1)] s with
       cue := { s.cue with queue := s.cue.queue ++ [c], accepted := s.cue.accepted + 1 } }) ∧
  (∀ (s : State) (c : Cue), s.hears = true → (s.state = .armed ∨ s.state = .run) → validCue s.synth.sets c →
     s.cue.queue.length < 32 → ¬ comesLate c s →
     ¬(s.state = .run ∧ isFree s = true ∧ s.cue.queue = [] ∧ c.gate = .localCue) →
     ∃ t, exec (.cue c.payload) s = .next t ∧
       t = { replied .ok [BitVec.ofNat 8 (s.cue.queue.length + 1)] s with
         cue := { s.cue with queue := s.cue.queue ++ [c], accepted := s.cue.accepted + 1 }, group := t.group } ∧
       gateJudged s.group t) ∧
  (∀ (s : State) (c : Cue), s.hears = true → validCue s.synth.sets c → s.cue.queue.length < 32 → comesLate c s →
     ¬ comesLate c (settleSample s) → exec (.cue c.payload) s = exec (.cue c.payload) (settleSample s))

/-- A LOCAL cue appended to the empty queue of a free station is the active cue at once, waiting for its activation
sample; a RUNNING cue of duration 0 ends for it with DONE. Where the end of that cue is announced for the very instant
of the coming sample, the row takes that sample with the activation (that it does, and the sign, are the model's choice,
log 1). -/
def Obligations.LocalCueStartsDryStation : Prop :=
  (∀ (s : State) (c : Cue), s.hears = true → s.state = .run → validCue s.synth.sets c → s.cue.queue = [] →
    s.cue.active = none → c.gate = .localCue →
    ∃ t a, exec (.cue c.payload) s = .next t ∧ t.cue.active = some a ∧ a.cue = c ∧ a.phase = .pendingAngle ∧
      a.awaiting = true ∧ a.startCycle = none ∧ a.startAngle = none ∧
      t.cue.queue = [] ∧ t.cue.accepted = s.cue.accepted + 1 ∧ t.cue.started = s.cue.started + 1 ∧
      t.cue.ended = s.cue.ended ∧ t.cue.discarded = s.cue.discarded ∧ isFlagged 8 t.alert ∧
      onlyFlags s.alert t.alert ∧ t.port = (replied .ok [1#8] s).port ∧ t.state = .run ∧ gateJudged s.group t ∧
      t.synth = s.synth ∧ t.sw = s.sw ∧ t.meas = s.meas ∧ t.report = s.report ∧ t.fault = s.fault ∧
      t.peer = s.peer ∧ t.pll = s.pll ∧ t.setup = s.setup) ∧
  (∀ (s : State) (c : Cue) (b : ActiveCue), s.hears = true → s.state = .run → validCue s.synth.sets c → s.cue.queue = [] →
    s.cue.active = some b → b.phase = .running → b.cue.duration = some 0 → s.cue.handover ≠ .announced →
    c.gate = .localCue →
    ∃ t a, exec (.cue c.payload) s = .next t ∧
      t.cue = { s.cue with
        accepted := s.cue.accepted + 1, started := s.cue.started + 1, ended := s.cue.ended + 1, active := some a
        deferredGap := gapDeferred b.cue s.cue.deferredGap } ∧
      a.cue = c ∧ a.phase = .pendingAngle ∧ a.awaiting = true ∧ a.startCycle = none ∧ a.startAngle = none ∧
      t.report = stored s.report (endRecord s b .done) ∧ isFlagged 8 t.alert ∧ isFlagged 10 t.alert ∧
      onlyFlags s.alert t.alert ∧ t.port = (replied .ok [1#8] s).port ∧ t.state = .run ∧ gateJudged s.group t ∧
      t.synth = synthEnded b.cue s.synth ∧ t.sw = s.sw ∧ t.meas = spanClosed s.meas ∧ t.fault = s.fault ∧
      t.peer = s.peer ∧ t.pll = s.pll ∧ t.setup = s.setup) ∧
  (∀ (s : State) (c : Cue) (b : ActiveCue), s.hears = true → s.state = .run → validCue s.synth.sets c → s.cue.queue = [] →
    s.cue.active = some b → b.phase = .running → b.cue.duration = some 0 → s.cue.handover = .announced →
    c.gate = .localCue → s.synth.runStart = false →
    let u := { s with cue := { s.cue with accepted := s.cue.accepted + 1 } }
    ∃ t, exec (.cue c.payload) s = .next t ∧ t.port = (replied .ok [1#8] s).port ∧
      gateJudged { s.group with runCycle := t.group.runCycle } t ∧
      (comingSteps { s with cue := { s.cue with queue := [c] } } = none → handedOver b c [] u t) ∧
      (∀ offset, c.kind = .phase → c.duration ≠ some 0 → s.synth.flicker = none → s.synth.stop = false →
        s.sw.pending = none → comingSteps { s with cue := { s.cue with queue := [c] } } = some offset →
        handedOverStepping b c [] offset u t))

/-- CUE refused: STATE in FAULT and RECOVER, unexamined; a faulty record by its first fault, field by field; FULL at 32
cues. -/
def Obligations.CueRefusalsOnlyReply : Prop :=
  (∀ (s : State) (p : List Byte), s.hears = true → (s.state = .fault ∨ s.state = .recover) →
    exec (.cue p) s = .next (replied .state [] s)) ∧
  (∀ (s : State) (p : List Byte), s.hears = true → s.state ≠ .fault → s.state ≠ .recover →
    (p.length < 2 ∨ p.length ≠ 2 + markedSize (be (p.take 2)) fieldIndices) →
    exec (.cue p) s = .next (replied .badField [16#8] s)) ∧
  (∀ (s : State) (c : Cue), s.hears = true → s.state ≠ .fault → s.state ≠ .recover → validCue s.synth.sets c →
    32 ≤ s.cue.queue.length → exec (.cue c.payload) s = .next (replied .full [] s)) ∧
  (∀ (s : State) (c : Cue) (n : Nat), s.hears = true → s.state ≠ .fault → s.state ≠ .recover →
    validCue s.synth.sets { c with harmonicSet := some .none } → n ≤ 7 →
    (s.synth.sets.getD n {}).entries = [] →
    exec (.cue ({ c with harmonicSet := some (.set n) } : Cue).payload) s = .next (replied .badField [12#8] s)) ∧
  (∀ (s : State) (raw : List (Option Nat)), s.hears = true → s.state ≠ .fault → s.state ≠ .recover → fieldsFit raw →
    (rawAt raw 0 = none → exec (.cue (recordPayload raw)) s = .next (replied .missingField [0#8] s)) ∧
    (rawAt raw 0 = some 65535 → exec (.cue (recordPayload raw)) s = .next (replied .badField [0#8] s)) ∧
    (∀ tag, rawAt raw 0 = some tag → tag ≤ 65534 →
      (rawAt raw 1 = none → exec (.cue (recordPayload raw)) s = .next (replied .missingField [1#8] s)) ∧
      (∀ kind, rawAt raw 1 = some kind → 7 < kind →
        exec (.cue (recordPayload raw)) s = .next (replied .badField [1#8] s)) ∧
      (∀ (k : CueKind) (i : Nat), rawAt raw 1 = some k.code → 2 ≤ i → i < 16 →
        (∀ j, 2 ≤ j → j < i → fieldPasses s.synth.sets k raw j) →
        (mustCarry k (rawAt raw 3).isSome i → rawAt raw i = none →
          exec (.cue (recordPayload raw)) s = .next (replied .missingField [BitVec.ofNat 8 i] s)) ∧
        (mustLack k (rawAt raw 3).isSome i → rawAt raw i ≠ none →
          exec (.cue (recordPayload raw)) s = .next (replied .badField [BitVec.ofNat 8 i] s)) ∧
        (∀ v, rawAt raw i = some v → ¬ mayHold s.synth.sets k (rawAt raw 7) i v →
          exec (.cue (recordPayload raw)) s = .next (replied .badField [BitVec.ofNat 8 i] s)))))

/-- FLUSH empties the queue in every state; the active cue goes on. A free station in RUN is dry, or holds its cue open,
and outside a gate pulse holds TK_GATE low; readiness is judged. A reply still under shift was cut at the rise of CSN
before the frame, which leaves FRAME_CUT pending (the model's reading, log 16). -/
def Obligations.FlushDiscardsQueue : Prop :=
  ∀ s : State, s.hears = true → ∃ t, exec (.flush []) s = .next t ∧
    t = { replied .ok [BitVec.ofNat 8 s.cue.queue.length] s with
      cue := { s.cue with
        queue := [], discarded := s.cue.discarded + BitVec.ofNat 32 s.cue.queue.length }
      group := t.group, alert := t.alert } ∧
    onlyFlags s.alert t.alert ∧
    (s.cue.queue = [] → t.group = s.group ∧ t.alert = (risen s).alert) ∧
    (s.cue.queue ≠ [] → gateJudged s.group t ∧ isFlagged 8 t.alert ∧
      (s.state = .run → isFree s = true → isFlagged 9 t.alert ∧
        (s.group.pulse = false → t.group.drive = .heldLow ∧ t.group.timerOn = false)))

/-! ### Group commands -/

/-- JOIN in CONFIG: ENROLL, SEEKING from 0 at the nominal frequency, measurement settling, receiver started. LEAVE in
ENROLL and RECOVER: CONFIG; Trunk, table and measurement as after a reset; queue, counters, records, run cycle and sets
kept. Elsewhere STATE. -/
def Obligations.JoinAndLeaveChangeState : Prop :=
  (∀ s : State, s.hears = true → s.state = .config → exec (.join []) s = .next { replied .ok [] s with
      state := .enroll
      pll := { runFreq := s.setup.nominal }
      meas := { running := true, v := { settle := 3 }, i := { settle := 3 } }
      peer := { s.peer with rx := .listening } }) ∧
  (∀ s : State, s.hears = true → s.state ≠ .config → exec (.join []) s = .next (replied .state [] s)) ∧
  (∀ s : State, s.hears = true → (s.state = .enroll ∨ s.state = .recover) →
    exec (.leave []) s = .next { replied .ok [] s with
      state := .config
      pll := { runFreq := s.setup.nominal }
      meas := {}
      peer := {}
      fault := { s.fault with cause := none }
      synth := { s.synth with wordDue := false, clampAsked := false }
      group := { s.group with
        drive := .notDriven, pulse := false, timerOn := false, timeoutDue := false
        tagCounts := List.replicate 8 0, tagDue := 0 }
      alert := if s.pll.sync = .locked then flagged 6 (risen s).alert else (risen s).alert }) ∧
  (∀ s : State, s.hears = true → s.state ≠ .enroll → s.state ≠ .recover →
    exec (.leave []) s = .next (replied .state [] s))

/-- ARM is refused for the first of R50's seven conditions that holds. -/
def Obligations.ArmRefusalsInOrder : Prop :=
  ∀ s : State, s.hears = true →
    (s.state ≠ .enroll → exec (.arm []) s = .next (replied .state [] s)) ∧
    (s.state = .enroll → s.pll.sync ≠ .locked → exec (.arm []) s = .next (replied .notLocked [] s)) ∧
    (s.state = .enroll → s.pll.sync = .locked → s.cue.queue = [] →
      exec (.arm []) s = .next (replied .empty [] s)) ∧
    (∀ c cs, s.state = .enroll → s.pll.sync = .locked → s.cue.queue = c :: cs →
      (c.gate = .localCue → exec (.arm []) s = .next (replied .headLocal [] s)) ∧
      (c.gate = .group → fltSeenHigh s = false → exec (.arm []) s = .next (replied .lineFault [] s)) ∧
      (c.gate = .group → fltSeenHigh s = true →
        ((∃ n f, n ≠ s.straps.number ∧ (s.entry n).present = true ∧ (s.entry n).frame = some f ∧ f.state = .run) →
          exec (.arm []) s = .next (replied .groupBusy [] s)) ∧
        ((∀ n f, n ≠ s.straps.number → (s.entry n).present = true → (s.entry n).frame = some f → f.state ≠ .run) →
          (∃ n f, n ≠ s.straps.number ∧ (s.entry n).present = true ∧ (s.entry n).frame = some f ∧
            (f.groupSize ≠ s.setup.groupSize ∨ f.nominal ≠ s.setup.nominal)) →
          exec (.arm []) s = .next (replied .mismatch [] s))))

/-- ARM accepted: ARMED; the gate timer at 0; the line released, with a wait begun, exactly when the station itself and
the present peers armed for its tag are at least the group size. That the own entry is not among the entries read is the
model's reading (log 19). DISARM in ARMED: ENROLL, off the gate line, timer 0. -/
def Obligations.ArmAndDisarmMoveGate : Prop :=
  (∀ (s : State) (c : Cue) (cs : List Cue), s.hears = true → s.state = .enroll → s.pll.sync = .locked →
     s.cue.queue = c :: cs → c.gate = .group → fltSeenHigh s = true →
     (∀ n f, n ≠ s.straps.number → (s.entry n).present = true → (s.entry n).frame = some f →
       f.state ≠ .run ∧ f.groupSize = s.setup.groupSize ∧ f.nominal = s.setup.nominal) →
     let enough := decide (s.setup.groupSize ≤ armedFor c.tag s)
     exec (.arm []) s = .next { replied .ok [] s with
       state := .armed
       group := { s.group with
         drive := if enough then .released else .heldLow
         pulse := false, timer := 0, timerOn := enough, timeoutDue := false
         tagCounts := List.replicate 8 0, tagDue := 0 } }) ∧
  (∀ s : State, s.hears = true → s.state = .armed → exec (.disarm []) s = .next { replied .ok [] s with
      state := .enroll
      group := { s.group with
        drive := .notDriven, pulse := false, timer := 0, timerOn := false, timeoutDue := false
        tagCounts := List.replicate 8 0, tagDue := 0 } }) ∧
  (∀ s : State, s.hears = true → s.state ≠ .armed → exec (.disarm []) s = .next (replied .state [] s))

/-- TK_GATE as the others leave it; the end of a gate pulse: a ready station waits anew from 0, another holds low. Ready
in RUN: TK_FLT high and no present entry of another roster member with another real gate tag. Ready in ARMED: LOCKED,
TK_FLT high, enough stations armed for the head's tag, none seen in RUN. -/
def Obligations.GateLineFollowsReadiness : Prop :=
  (∀ (h : Bool) (s : State), exec (.tkGateChange h) s = .next { s with lines := { s.lines with gateHigh := h } }) ∧
  (∀ s : State, (s.state = .armed ∨ s.state = .run) → s.group.pulse = true →
    (readyAtGate s → exec .gatePulseEnd s = .next { s with group := { s.group with
      pulse := false, drive := .released, timer := 0, timerOn := true } }) ∧
    (standsAtGate s → ¬ readyAtGate s → exec .gatePulseEnd s = .next { s with group := { s.group with
      pulse := false, drive := .heldLow, timerOn := false } }) ∧
    (¬ standsAtGate s → exec .gatePulseEnd s = .next { s with group := { s.group with
      pulse := false, drive := .heldLow, timerOn := false, tagCounts := List.replicate 8 0 } })) ∧
  (∀ s : State, s.group.pulse = false → exec .gatePulseEnd s = .next s)

/-- A gate opening seen in ARMED opens the run: R62's steps, then the head is the active cue. -/
def Obligations.GateOpeningOpensRun : Prop :=
  ∀ (s : State) (c : Cue) (cs : List Cue), s.state = .armed → s.cue.active = none → s.cue.queue = c :: cs →
    c.gate = .group → s.group.drive = .released → s.group.pulse = false → s.lines.gateHigh = true →
    s.peer.table.length = 8 →
    ∃ t a, exec .gateOpening s = .next t ∧ t.state = .run ∧ t.group.runCycle = 0 ∧
      t.group.endedAtOpen = s.cue.ended ∧ t.group.pulse = true ∧ t.group.timerOn = false ∧
      t.group.drive = .released ∧ t.group.tagCounts = List.replicate 8 0 ∧
      (∀ n : Fin 8, n ∈ t.roster ↔ (n = s.straps.number ∨ ((s.entry n).present = true ∧
        ∃ f, (s.entry n).frame = some f ∧ f.state = .armed))) ∧
      t.report = stored s.report (.runStart t.roster c.tag) ∧
      t.cue = { s.cue with queue := cs, started := s.cue.started + 1, active := some a
                           deferredGap := if c.kind = .endRun then none else s.cue.deferredGap } ∧
      a.cue = c ∧ a.phase = .pendingAngle ∧ a.awaiting = true ∧ a.startCycle = none ∧ a.startAngle = none ∧
      isFlagged 11 t.alert ∧ (cs.length ≤ s.setup.watermark → isFlagged 8 t.alert) ∧ onlyFlags s.alert t.alert ∧
      t.synth = { s.synth with runStart := true, clamp := none, clampAsked := false, clampEndDue := false } ∧
      t.meas.overloadRun = 0 ∧ t.sw = s.sw ∧ t.fault = s.fault ∧ t.setup = s.setup ∧
      (c.kind = .freq → t.pll = { s.pll with pendingFreq := c.frequency }) ∧ (c.kind ≠ .freq → t.pll = s.pll)

/-- A gate opening seen in RUN by a free station activates the head and leaves the run as it is; a RUNNING cue of
duration 0 ends for it with DONE. Where the end of that cue is announced for the very instant of the coming sample, the
row takes that sample with the activation (that it does, and the sign, are the model's choice, log 1). Of heads that are
not of duration 0, a PHASE cue whose start angle that sample reaches makes a phase step there, and no other does. -/
def Obligations.GateOpeningActivatesHead : Prop :=
  (∀ (s : State) (c : Cue) (cs : List Cue), s.state = .run → s.cue.active = none → s.cue.queue = c :: cs →
    c.gate = .group → s.group.drive = .released → s.group.pulse = false → s.lines.gateHigh = true →
    ∃ a al, exec .gateOpening s = .next { s with
        cue := { s.cue with queue := cs, started := s.cue.started + 1, active := some a
                            deferredGap := if c.kind = .endRun then none else s.cue.deferredGap }
        group := { s.group with timerOn := false, pulse := true, tagCounts := List.replicate 8 0 }
        pll := { s.pll with pendingFreq := if c.kind = .freq then c.frequency else s.pll.pendingFreq }
        alert := al } ∧
      a.cue = c ∧ a.phase = .pendingAngle ∧ a.awaiting = true ∧ a.startCycle = none ∧ a.startAngle = none ∧
      (al = if cs.length ≤ s.setup.watermark then flagged 8 s.alert else s.alert)) ∧
  (∀ (s : State) (b : ActiveCue) (c : Cue) (cs : List Cue), s.state = .run → s.cue.active = some b → b.phase = .running →
    b.cue.duration = some 0 → s.cue.queue = c :: cs → s.cue.handover ≠ .announced → c.gate = .group →
    s.group.drive = .released → s.group.pulse = false → s.lines.gateHigh = true →
    ∃ a al, exec .gateOpening s = .next { s with
        cue := { s.cue with
          queue := cs, started := s.cue.started + 1, ended := s.cue.ended + 1, active := some a
          deferredGap := if c.kind = .endRun then none else gapDeferred b.cue s.cue.deferredGap }
        group := { s.group with timerOn := false, pulse := true, tagCounts := List.replicate 8 0 }
        pll := { s.pll with pendingFreq := if c.kind = .freq then c.frequency else s.pll.pendingFreq }
        synth := synthEnded b.cue s.synth
        meas := spanClosed s.meas
        report := stored s.report (endRecord s b .done)
        alert := al } ∧
      a.cue = c ∧ a.phase = .pendingAngle ∧ a.awaiting = true ∧ a.startCycle = none ∧ a.startAngle = none ∧
      isFlagged 10 al ∧ (cs.length ≤ s.setup.watermark → isFlagged 8 al) ∧ onlyFlags s.alert al) ∧
  (∀ (s : State) (b : ActiveCue) (c : Cue) (cs : List Cue), s.state = .run → s.cue.active = some b → b.phase = .running →
    b.cue.duration = some 0 → s.cue.queue = c :: cs → s.cue.handover = .announced → c.gate = .group →
    s.group.drive = .released → s.group.pulse = false → s.lines.gateHigh = true → s.synth.runStart = false →
    ∃ t, exec .gateOpening s = .next t ∧ t.port = s.port ∧
      t.group = { s.group with
        timerOn := false, pulse := true, tagCounts := List.replicate 8 0, runCycle := t.group.runCycle } ∧
      (comingSteps s = none → handedOver b c cs s t) ∧
      (∀ offset, c.kind = .phase → c.duration ≠ some 0 → s.synth.flicker = none → s.synth.stop = false →
        s.sw.pending = none → comingSteps s = some offset → handedOverStepping b c cs offset s t)) ∧
  (∀ (s : State) (c : Cue) (cs : List Cue), s.cue.queue = c :: cs →
    (c.kind = .freq ∨ (c.kind ≠ .phase ∧ c.duration ≠ some 0) → comingSteps s = none) ∧
    (¬ angleReached c { s with pll := comingSample s.pll } → comingSteps s = none) ∧
    (c.kind = .phase → c.duration ≠ some 0 → angleReached c { s with pll := comingSample s.pll } →
      comingSteps s = if c.phaseDelta.getD 0 = 0 then none
        else some ((s.synth.stepOffset + c.phaseDelta.getD 0) % 3600).toNat))

/-! ### Faults -/

/-- ABORT, and the causes that steps of their own pass, make a fault entry in the states R108 gives them, count as
secondary in FAULT, and are dropped elsewhere. A readback mismatch bars the slot and passes SLOT_CLASH. -/
def Obligations.CausesEnterFault : Prop :=
  (∀ s : State, s.hears = true → s.state = .config → exec (.abort []) s = .next (replied .state [] s)) ∧
  (∀ s : State, s.hears = true → s.state = .fault → exec (.abort []) s = .next { replied .ok [] s with
      fault := { s.fault with secondary := min 255 (s.fault.secondary + 1) } }) ∧
  (∀ s : State, s.hears = true → s.state ≠ .config → s.state ≠ .fault →
    ∃ t, exec (.abort []) s = .next t ∧ faultEntered .hostAbort s t ∧ t.port = (replied .ok [] s).port) ∧
  (∀ s : State, s.group.timeoutDue = true → ∃ t, exec .gateTimeout s = .next t ∧
    causePassed .gateTimeout (s.state = .armed ∨ s.state = .run)
      { s with group := { s.group with timeoutDue := false } } t) ∧
  (∀ s : State, s.group.timeoutDue = false → exec .gateTimeout s = .next s) ∧
  (∀ (n : Fin 8) (s : State), s.group.tagDue.getLsbD n.val = true → ∃ t, exec (.tagMismatch n) s = .next t ∧
    causePassed .tagMismatch (s.state = .armed ∨ s.state = .run)
      { s with group := { s.group with tagDue := s.group.tagDue &&& ~~~(BitVec.twoPow 8 n.val) } } t) ∧
  (∀ (n : Fin 8) (s : State), s.group.tagDue.getLsbD n.val = false → exec (.tagMismatch n) s = .next s) ∧
  (∀ s : State, s.meas.overloadDue = true → ∃ t, exec .overload s = .next t ∧
    causePassed .overload (s.state = .run) { s with meas := { s.meas with overloadDue := false } } t) ∧
  (∀ s : State, s.meas.overloadDue = false → exec .overload s = .next s) ∧
  (∀ s : State, s.meas.toleranceDue = true → ∃ t, exec .outOfTolerance s = .next t ∧
    causePassed .outOfTolerance (s.state = .run) { s with meas := { s.meas with toleranceDue := false } } t) ∧
  (∀ s : State, s.meas.toleranceDue = false → exec .outOfTolerance s = .next s) ∧
  (∀ s : State, (s.state = .armed ∨ s.state = .run) →
    ∃ t, exec .tkFltFall s = .next t ∧ t.port = s.port ∧
      faultEntered .groupFault { s with lines := { s.lines with fltHigh := false } } t) ∧
  (∀ s : State, s.state ≠ .armed → s.state ≠ .run →
    exec .tkFltFall s = .next { s with lines := { s.lines with fltHigh := false } }) ∧
  (∀ (s : State) (f : PeerFrame), s.peer.tx = some f → s.state ≠ .config →
     (s.state ≠ .fault → ∃ t, exec .readbackMismatch s = .next t ∧ t.port = s.port ∧
       faultEntered .slotClash { s with peer := { s.peer with tx := none, rx := .waitIdle, barred := true } } t) ∧
     (s.state = .fault → exec .readbackMismatch s = .next { s with
       peer := { s.peer with tx := none, rx := .waitIdle, barred := true }
       fault := { s.fault with secondary := min 255 (s.fault.secondary + 1) } }))

/-- CLEAR_FAULT with the stop complete: the outstanding record is offered, the line released, the roster cleared; then
RECOVER, or ENROLL with no cause where the line is high. TK_FLT seen high takes a station in RECOVER to ENROLL, lets one
in ARMED or RUN judge its readiness anew, by which it releases TK_GATE or holds it, and elsewhere is the line's level
alone. The FAULT record falls due once, at the second epoch after the onset. -/
def Obligations.FaultEpisodeEnds : Prop :=
  (∀ (s : State) (c : FaultCause), s.hears = true → s.state = .fault → s.fault.stopComplete = true →
    s.fault.cause = some c →
    ∃ al, exec (.clearFault []) s = .next { replied .ok [BitVec.ofNat 8 s.fault.secondary] s with
        state := if s.lines.fltHigh then .enroll else .recover
        fault := { s.fault with
          fltLow := false, offered := true, cause := if s.lines.fltHigh then none else some c }
        report := if s.fault.offered then s.report else stored s.report (.fault {
          cause := c, origin := s.fault.origin, onset := s.fault.onset, cutTag := s.fault.cutTag
          discarded := s.fault.discarded, secondary := s.fault.secondary })
        peer := { s.peer with table := s.peer.table.map (fun e => { e with member := false }) }
        alert := al } ∧
      onlyFlags s.alert al ∧ (s.fault.offered = true → al = (risen s).alert)) ∧
  (∀ s : State, s.hears = true → ¬(s.state = .fault ∧ s.fault.stopComplete = true) →
    exec (.clearFault []) s = .next (replied .state [] s)) ∧
  (∀ s : State, s.state = .recover → s.fault.fltLow = false → exec .tkFltRise s = .next { s with
      state := .enroll, fault := { s.fault with cause := none }, lines := { s.lines with fltHigh := true } }) ∧
  (∀ s : State, (s.state = .config ∨ s.state = .enroll ∨ s.state = .fault ∨
      (s.state = .recover ∧ s.fault.fltLow = true)) →
    exec .tkFltRise s = .next { s with lines := { s.lines with fltHigh := true } }) ∧
  (∀ s : State, (s.state = .armed ∨ s.state = .run) →
    ∃ t, exec .tkFltRise s = .next t ∧ t = { s with lines := { s.lines with fltHigh := true }, group := t.group } ∧
      gateJudged s.group t) ∧
  (∀ (s : State) (c : FaultCause), s.state = .fault → s.fault.cause = some c → s.fault.epochs = 2 →
    s.fault.offered = false →
    ∃ al, exec .faultRecord s = .next { s with
        fault := { s.fault with offered := true }
        report := stored s.report (.fault {
          cause := c, origin := s.fault.origin, onset := s.fault.onset, cutTag := s.fault.cutTag
          discarded := s.fault.discarded, secondary := s.fault.secondary })
        alert := al } ∧ onlyFlags s.alert al) ∧
  (∀ s : State, ¬(s.state = .fault ∧ s.fault.epochs = 2 ∧ s.fault.offered = false) →
    exec .faultRecord s = .next s)

/-! ### Reports and alerts -/

/-- TAKE of 1 to 4: the oldest records, as many as fit, are carried in the reply, each with its kind code, its length
and its fields as R194 lays them out, and stay in the queue. CLEAR_LOSS: STATE when not LOST, FULL at 24 records, else
the LOSS record at the tail and the loss cleared. -/
def Obligations.RecordsAreTakenAndLossCleared : Prop :=
  (∀ (s : State) (n : Nat), s.hears = true → 1 ≤ n → n ≤ 4 →
    ∃ k, exec (.take [BitVec.ofNat 8 n]) s = .next (repliedWith {
          result := .ok, carried := k
          bytes := BitVec.ofNat 8 k :: (s.report.records.take k).flatMap Record.bytes } s) ∧
      k ≤ n ∧ k ≤ s.report.records.length ∧
      1 + ((s.report.records.take k).flatMap Record.bytes).length ≤ 128 ∧
      (k < n → k < s.report.records.length →
        128 < 1 + ((s.report.records.take (k + 1)).flatMap Record.bytes).length)) ∧
  (∀ (s : State) (p : List Byte), s.hears = true → p.length ≠ 1 →
    exec (.take p) s = .next (replied .badField [1#8] s)) ∧
  (∀ (s : State) (b : Byte), s.hears = true → (b.toNat < 1 ∨ 4 < b.toNat) →
    exec (.take [b]) s = .next (replied .badField [0#8] s)) ∧
  (∀ r : Record, r.bytes = BitVec.ofNat 8 (recordLayout r).1 ::
    BitVec.ofNat 8 (((recordLayout r).2.map Prod.fst).sum) :: (recordLayout r).2.flatMap numberBytes) ∧
  (∀ s : State, s.hears = true →
     (s.report.lost = false → exec (.clearLoss []) s = .next (replied .state [] s)) ∧
     (s.report.lost = true → 24 ≤ s.report.records.length →
       exec (.clearLoss []) s = .next (replied .full [] s)) ∧
     (s.report.lost = true → s.report.records.length < 24 →
       exec (.clearLoss []) s = .next { replied .ok [BitVec.ofNat 8 s.report.lostCount] s with
         report := { records := s.report.records ++ [.loss s.report.lostCount], lost := false, lostCount := 0 }
         alert := if s.report.records = [] then flagged 12 (risen s).alert else (risen s).alert }))

/-- ALERT_SET replaces every enable, every priority and the threshold; faults are named in R172's order. -/
def Obligations.AlertSetReplacesSettings : Prop :=
  (∀ (s : State) (en : BitVec 14) (prio : List Nat) (th : Nat), s.hears = true → prio.length = 14 →
    (∀ q ∈ prio, q ≤ 3) → th ≤ 3 →
    exec (.alertSet (alertPayload en prio th)) s = .next { replied .ok [] s with
      alert := { (risen s).alert with enable := en, prio := prio, threshold := th } }) ∧
  (∀ (s : State) (p : List Byte), s.hears = true → p.length ≠ 17 →
    exec (.alertSet p) s = .next (replied .badField [16#8] s)) ∧
  (∀ (s : State) (p : List Byte), s.hears = true → p.length = 17 → 16383 < wordAt p 0 →
    exec (.alertSet p) s = .next (replied .badField [0#8] s)) ∧
  (∀ (s : State) (p : List Byte) (i : Nat), s.hears = true → p.length = 17 → wordAt p 0 ≤ 16383 → 1 ≤ i → i ≤ 14 →
    (∀ j, 1 ≤ j → j < i → byteAt p (j + 1) ≤ 3) → 3 < byteAt p (i + 1) →
    exec (.alertSet p) s = .next (replied .badField [BitVec.ofNat 8 i] s)) ∧
  (∀ (s : State) (p : List Byte), s.hears = true → p.length = 17 → wordAt p 0 ≤ 16383 →
    (∀ j, 1 ≤ j → j ≤ 14 → byteAt p (j + 1) ≤ 3) → 3 < byteAt p 16 →
    exec (.alertSet p) s = .next (replied .badField [15#8] s))

/-- ALERT_NEXT selects, among the causes that qualify, the highest priority and then the lowest number. ALERT_DONE
removes the top entry of the service stack, or is refused with NOT_ACTIVE. The causes are those pending once CSN has
risen from the frame before, whose cut reply leaves FRAME_CUT (the model's reading, log 16). -/
def Obligations.AlertNextAndDone : Prop :=
  (∀ (s : State) (al : AlertUnit) (c : AlertCause), s.hears = true → al = (risen s).alert → al.qualifies c = true →
    (∀ d, al.qualifies d = true → al.priority d < al.priority c ∨ (al.priority d = al.priority c ∧ c.num ≤ d.num)) →
    exec (.alertNext []) s = .next { replied .ok
        [BitVec.ofNat 8 c.num, BitVec.ofNat 8 (al.stack.length + 1)] s with
      alert := { al with
        pending := al.pending &&& ~~~(BitVec.twoPow 14 c.num)
        stack := { cause := c, priority := al.priority c } :: al.stack } }) ∧
  (∀ s : State, s.hears = true → (∀ d, (risen s).alert.qualifies d = false) →
    exec (.alertNext []) s = .next (replied .ok [255#8, BitVec.ofNat 8 s.alert.stack.length] s)) ∧
  (∀ (s : State) (e : StackEntry) (rest : List StackEntry), s.hears = true → s.alert.stack = e :: rest →
    exec (.alertDone []) s = .next { replied .ok [BitVec.ofNat 8 e.cause.num, BitVec.ofNat 8 rest.length] s with
      alert := { (risen s).alert with stack := rest } }) ∧
  (∀ s : State, s.hears = true → s.alert.stack = [] →
    exec (.alertDone []) s = .next (replied .notActive [] s))

/-- A cause qualifies while it is pending, enabled, at or above the threshold and above the stack's top; ALERTN is
asserted exactly while one does, and the summary byte shows it. A cause whose own entry stands on the stack does not
qualify, and one that does not qualify stays pending through an ALERT_NEXT. -/
def Obligations.AlertnFollowsQualification : Prop :=
  (∀ (a : AlertUnit) (c : AlertCause), a.qualifies c = true ↔
    a.pending.getLsbD c.num = true ∧ a.enable.getLsbD c.num = true ∧ a.threshold ≤ a.prio.getD c.num 0 ∧
      (∀ e rest, a.stack = e :: rest → e.priority < a.prio.getD c.num 0)) ∧
  (∀ a : AlertUnit, a.alertn = true ↔ ∃ c : AlertCause, a.qualifies c = true) ∧
  (∀ s : State, (summaryByte s).getLsbD 4 = s.alert.alertn) ∧
  (∀ (a : AlertUnit) (e : StackEntry), e ∈ a.stack → descending a.stack = true →
    a.prio.getD e.cause.num 0 = e.priority → a.qualifies e.cause = false) ∧
  (∀ (s : State) (c : AlertCause), s.hears = true → isFlagged c.num s.alert → (risen s).alert.qualifies c = false →
    ∃ t, exec (.alertNext []) s = .next t ∧ isFlagged c.num t.alert)

/-! ### Harmonic sets -/

/-- HSET in CONFIG and ENROLL of a set no cue names: content and factor are replaced. Refused: IN_USE where a queued cue
or the active cue names the set, STATE in ARMED, RUN, FAULT and RECOVER, and the payload's own faults by index: set
number, count, length, the first item out of range, the first repeated order. -/
def Obligations.HsetReplacesSet : Prop :=
  (∀ (s : State) (n : Nat) (es : List HarmonicEntry), s.hears = true → (s.state = .config ∨ s.state = .enroll) →
     n ≤ 7 → validEntries es →
     ((∀ c ∈ s.cue.queue, c.harmonicSet ≠ some (.set n)) →
       (∀ a, s.cue.active = some a → a.cue.harmonicSet ≠ some (.set n)) →
       exec (.hset (hsetPayload n es)) s = .next { replied .ok (u16 (rmsFactor es)) s with
         synth := { s.synth with sets := s.synth.sets.set n { entries := es, factor := rmsFactor es } } }) ∧
     (((∃ c ∈ s.cue.queue, c.harmonicSet = some (.set n)) ∨
         (∃ a, s.cue.active = some a ∧ a.cue.harmonicSet = some (.set n))) →
       exec (.hset (hsetPayload n es)) s = .next (replied .inUse [] s))) ∧
  (∀ (s : State) (n j : Nat) (es : List HarmonicEntry) (e : HarmonicEntry), s.hears = true →
     (s.state = .config ∨ s.state = .enroll) → n ≤ 7 → es.length ≤ 12 → (∀ d ∈ es, entryFits d) → es[j]? = some e →
     ((∀ d ∈ es.take j, entryInRange d) →
       ((e.order < 2 ∨ 50 < e.order) →
         exec (.hset (hsetPayload n es)) s = .next (replied .badField [BitVec.ofNat 8 (3 * j + 2)] s)) ∧
       (2 ≤ e.order → e.order ≤ 50 → 3000 < e.amplitude →
         exec (.hset (hsetPayload n es)) s = .next (replied .badField [BitVec.ofNat 8 (3 * j + 3)] s)) ∧
       (2 ≤ e.order → e.order ≤ 50 → e.amplitude ≤ 3000 → 3599 < e.phase →
         exec (.hset (hsetPayload n es)) s = .next (replied .badField [BitVec.ofNat 8 (3 * j + 4)] s))) ∧
     ((∀ d ∈ es, entryInRange d) → ((es.take j).map HarmonicEntry.order).Nodup →
       e.order ∈ (es.take j).map HarmonicEntry.order →
       exec (.hset (hsetPayload n es)) s = .next (replied .badField [BitVec.ofNat 8 (3 * j + 2)] s))) ∧
  (∀ (s : State) (p : List Byte), s.hears = true → s.state ≠ .config → s.state ≠ .enroll →
    exec (.hset p) s = .next (replied .state [] s)) ∧
  (∀ (s : State) (p : List Byte), s.hears = true → (s.state = .config ∨ s.state = .enroll) →
    (p.length < 2 → exec (.hset p) s = .next (replied .badField [38#8] s)) ∧
    (2 ≤ p.length → 7 < byteAt p 0 → exec (.hset p) s = .next (replied .badField [0#8] s)) ∧
    (2 ≤ p.length → byteAt p 0 ≤ 7 → 12 < byteAt p 1 → exec (.hset p) s = .next (replied .badField [1#8] s)) ∧
    (2 ≤ p.length → byteAt p 0 ≤ 7 → byteAt p 1 ≤ 12 → p.length ≠ 2 + 5 * byteAt p 1 →
      exec (.hset p) s = .next (replied .badField [38#8] s)))

/-- The RMS factor is the root of 1 plus the sum of (a / 10 000)^2, in thousandths, to the nearest, a half up. -/
def Obligations.RmsFactorIsRoundedRoot : Prop :=
  ∀ es : List HarmonicEntry, validEntries es →
    (2 * rmsFactor es - 1) ^ 2 * 100000000 ≤ 4 * (1000000 * (100000000 + sumSquares es)) ∧
      4 * (1000000 * (100000000 + sumSquares es)) < (2 * rmsFactor es + 1) ^ 2 * 100000000

/-! ### Peers -/

/-- Every frame with its fields in their sets is read back from its sixteen bytes, each field in the byte R195 gives it.
On the line each byte is a start bit, low, its eight bits, the most significant first, and a stop bit, high, back to
back; a receiver reads the bytes from these bits. -/
def Obligations.PeerFrameRoundTrip : Prop :=
  ∀ f : PeerFrame, validFrame f → readFrame f.bytes = some f ∧ f.bytes.length = 16 ∧
    byteAt f.bytes 0 = 64 * f.phase.code + 8 * f.spare.toNat + f.number.val ∧ byteAt f.bytes 1 = f.state.code ∧
    byteAt f.bytes 2 = f.lock.toNat + 2 * f.limiting.toNat ∧ wordAt f.bytes 3 = f.gateTag.getD 65535 ∧
    wordAt f.bytes 5 = f.activeTag.getD 65535 ∧
    byteAt f.bytes 7 = (match f.cause with | some c => c.code | none => 255) ∧
    wordAt f.bytes 8 = f.vRms.getD 65535 ∧ wordAt f.bytes 10 = f.iRms.getD 65535 ∧ byteAt f.bytes 12 = f.groupSize ∧
    wordAt f.bytes 13 = f.nominal ∧ f.bytes.getD 15 0#8 = crc8 (f.bytes.take 15) ∧
    f.lineBits.length = 160 ∧
    (∀ i < 16, f.lineBits.getD (10 * i) true = false ∧ f.lineBits.getD (10 * i + 9) false = true ∧
      ∀ j < 8, f.lineBits.getD (10 * i + 1 + j) false = (f.bytes.getD i 0#8).getLsbD (7 - j)) ∧
    readBytes 16 f.lineBits = some f.bytes ∧ receivedRow f.lineBits = .peerFrameReceived f.bytes

/-- PEERS replies with the eight entries as they stand and changes nothing else. -/
def Obligations.PeersOnlyReplies : Prop :=
  (∀ s : State, s.hears = true → exec (.peers []) s = .next (replied .ok (s.peer.table.flatMap PeerEntry.bytes) s)) ∧
  (∀ e : PeerEntry, e.bytes.length = 16) ∧
  (∀ e : PeerEntry, e.missed ≤ 3 → e.shareRun ≤ 10 →
    byteAt e.bytes 0 = e.present.toNat + 2 * e.member.toNat + 4 * e.frame.isSome.toNat + 8 * e.missed +
      32 * (match e.frame with | some f => f.limiting.toNat | none => 0) ∧
    byteAt e.bytes 1 = e.shareRun ∧
    (∀ f, e.frame = some f → e.bytes.drop 2 = f.bytes.take 2 ++ (f.bytes.drop 3).take 12) ∧
    (e.frame = none → e.bytes.drop 2 = List.replicate 14 0#8))

/-- A frame read back whole refreshes the own entry and raises nothing. A frame dropped for its check, a field or the
own number changes no entry; an abandoned frame leaves the receiver waiting for idle; a receiver that does not read
takes nothing. That a receiver waiting for idle takes a dropped frame and then listens is the model's reading (log 33).
TK_DAT has the bits of the frame in hand, and is released behind its last bit and without one. A bit sent high that the
others pull low is the readback mismatch, and nothing else is. A start bit read high or a stop bit read low abandons a
frame. -/
def Obligations.TransmitterAndReceiver : Prop :=
  (∀ (s : State) (f : PeerFrame), s.peer.tx = some f → exec .peerFrameSent s = .next { s with
      peer := { s.peer with
        tx := none, rx := .waitIdle
        table := s.peer.table.set s.straps.number.val { s.entry s.straps.number with
          frame := some f, heard := true, present := true, missed := 0 } } }) ∧
  (∀ s : State, s.peer.tx = none → exec .peerFrameSent s = .next s) ∧
  (∀ (s : State) (bytes : List Byte), (s.peer.rx = .listening ∨ s.peer.rx = .waitIdle) →
    (readFrame bytes = none ∨ ∃ f, readFrame bytes = some f ∧ f.number = s.straps.number) →
    exec (.peerFrameReceived bytes) s = .next { s with peer := { s.peer with rx := .listening } }) ∧
  (∀ bytes : List Byte, (bytes.length ≠ 16 ∨ crc8 (bytes.take 15) ≠ bytes.getD 15 0#8) → readFrame bytes = none) ∧
  (∀ (bytes : List Byte) (f : PeerFrame), readFrame bytes = some f → validFrame f) ∧
  (∀ s : State, (s.peer.rx = .listening ∨ s.peer.rx = .waitIdle) →
    exec .receiverAbandonsFrame s = .next { s with peer := { s.peer with rx := .waitIdle } }) ∧
  (∀ (s : State) (bytes : List Byte), (s.peer.rx = .stopped ∨ s.peer.rx = .muted) →
    exec (.peerFrameReceived bytes) s = .next s ∧ exec .receiverAbandonsFrame s = .next s) ∧
  (∀ (p : PeerLink) (n : Nat), (p.tx = none → datLevel p n = true) ∧
    (∀ f, p.tx = some f → datLevel p n = f.lineBits.getD n true ∧ (160 ≤ n → datLevel p n = true))) ∧
  (∀ (f : PeerFrame) (others : List Bool), others.length = 160 →
    ((∃ n < 160, f.lineBits.getD n false = true ∧ others.getD n true = false) → sentRow f others = .readbackMismatch) ∧
    ((∀ n < 160, f.lineBits.getD n false = true → others.getD n true = true) → sentRow f others = .peerFrameSent)) ∧
  (∀ bits : List Bool, bits.length = 160 →
    ((∃ bytes, readBytes 16 bits = some bytes) ↔
      ∀ i < 16, bits.getD (10 * i) true = false ∧ bits.getD (10 * i + 9) false = true) ∧
    (readBytes 16 bits = none → receivedRow bits = .receiverAbandonsFrame))

/-- An accepted frame of another station is filed in its entry; an arrival and a new mismatch are reported once; at the
gate the tag mismatch count follows the frame's gate tag, and one that reaches 2 leaves TAG_MISMATCH to be passed. That
a FAULT frame of cause NONE names no origin, and that a receiver waiting for idle takes the frame, are the model's
readings (logs 27 and 33). -/
def Obligations.AcceptedFrameIsFiled : Prop :=
  ∀ (s : State) (f : PeerFrame), (s.peer.rx = .listening ∨ s.peer.rx = .waitIdle) → validFrame f →
    f.number ≠ s.straps.number → s.peer.table.length = 8 →
    ((s.entry f.number).present = true → (s.entry f.number).missed ≤ 2) →
    ∃ t, exec (.peerFrameReceived f.bytes) s = .next t ∧ t.peer.rx = .listening ∧
      (t.entry f.number).frame = some f ∧ (t.entry f.number).present = true ∧ (t.entry f.number).heard = true ∧
      (t.entry f.number).missed = 0 ∧ (t.entry f.number).member = (s.entry f.number).member ∧
      ((t.entry f.number).mismatch = true ↔ (f.groupSize ≠ s.setup.groupSize ∨ f.nominal ≠ s.setup.nominal)) ∧
      (∀ n, n ≠ f.number → t.entry n = s.entry n) ∧
      t.report = storedAll s.report
        ((if (s.entry f.number).present = true then [] else [.peerArrived f.number]) ++
          (if (f.groupSize ≠ s.setup.groupSize ∨ f.nominal ≠ s.setup.nominal) ∧
              (s.entry f.number).mismatch = false
           then [.peerMismatch f.number f.groupSize f.nominal] else [])) ∧
      ((s.entry f.number).present = false → isFlagged 3 t.alert) ∧
      ((f.groupSize ≠ s.setup.groupSize ∨ f.nominal ≠ s.setup.nominal) → (s.entry f.number).mismatch = false →
        isFlagged 5 t.alert) ∧ onlyFlags s.alert t.alert ∧
      gateJudged { s.group with
        tagDue := t.group.tagDue
        tagCounts := if atGate s = true then s.group.tagCounts.set f.number.val (tagCountAfter s f)
          else s.group.tagCounts } t ∧
      (atGate s = true → t.group.tagCounts = s.group.tagCounts.set f.number.val (tagCountAfter s f) ∧
        ∀ n : Fin 8, t.group.tagDue.getLsbD n.val =
          (s.group.tagDue.getLsbD n.val || (decide (n = f.number) && decide (tagCountAfter s f = 2)))) ∧
      (atGate s = false → t.group.tagDue = s.group.tagDue ∧
        ((s.state = .armed ∨ s.state = .run) → t.group.tagCounts = List.replicate 8 0)) ∧
      (s.state ≠ .armed → s.state ≠ .run → t.group = s.group) ∧
      t.state = s.state ∧ t.cue = s.cue ∧ t.pll = s.pll ∧ t.synth = s.synth ∧
      t.sw = s.sw ∧ t.meas = s.meas ∧ t.setup = s.setup ∧ t.fault = { s.fault with origin := t.fault.origin } ∧
      (¬(s.state = .fault ∧ s.fault.cause = some .groupFault ∧ s.fault.offered = false ∧ f.state = .fault ∧
          f.cause ≠ none ∧ f.cause ≠ some .groupFault) → t.fault = s.fault) ∧
      ((s.state = .fault ∧ s.fault.cause = some .groupFault ∧ s.fault.offered = false ∧ f.state = .fault ∧
          f.cause ≠ none ∧ f.cause ≠ some .groupFault) →
        (s.fault.origin = none → t.fault.origin = some f.number) ∧
        (∀ o, s.fault.origin = some o → t.fault.origin = some (if f.number < o then f.number else o)))

/-- An entry whose missed count has reached 3 becomes absent: record ABSENT; then PEER_LOST for a roster member in RUN,
PEER_CHANGE otherwise, in FAULT with a roster member counted as a secondary PEER_LOST. The own entry becomes absent
without any of it. -/
def Obligations.SilentPeerBecomesAbsent : Prop :=
  (∀ (s : State) (n : Fin 8), n ≠ s.straps.number → (s.entry n).present = true → 3 ≤ (s.entry n).missed →
    (s.state = .run ∧ (s.entry n).member = true →
      ∃ t, exec (.peerAbsent n) s = .next t ∧ t.state = .fault ∧ t.fault.cause = some .peerLost ∧
        t.fault.onset = s.group.runCycle ∧ t.fault.origin = some s.straps.number ∧ isFlagged 0 t.alert ∧
        t.report = storedAll s.report (.peerAbsent n :: entryRecords s) ∧
        t.entry n = { s.entry n with
          present := false, mismatch := false, shareRun := 0, shareReported := false, shared := none }) ∧
    (¬(s.state = .run ∧ (s.entry n).member = true) →
      ∃ t, exec (.peerAbsent n) s = .next t ∧ t.state = s.state ∧
        t.fault = { s.fault with secondary :=
          if s.state = .fault ∧ (s.entry n).member = true then min 255 (s.fault.secondary + 1) else s.fault.secondary } ∧
        t.report = stored s.report (.peerAbsent n) ∧ isFlagged 3 t.alert ∧ onlyFlags s.alert t.alert ∧
        t.peer = { s.peer with table := s.peer.table.set n.val { s.entry n with
          present := false, mismatch := false, shareRun := 0, shareReported := false, shared := none } } ∧
        gateJudged s.group t ∧ t.cue = s.cue ∧ t.pll = s.pll ∧ t.synth = s.synth ∧ t.sw = s.sw ∧
        t.meas = s.meas ∧ t.setup = s.setup)) ∧
  (∀ (s : State) (n : Fin 8), n = s.straps.number → (s.entry n).present = true → 3 ≤ (s.entry n).missed →
    exec (.peerAbsent n) s = .next { s with peer := { s.peer with table := s.peer.table.set n.val { s.entry n with
      present := false, mismatch := false, shareRun := 0, shareReported := false, shared := none } } }) ∧
  (∀ (s : State) (n : Fin 8), ((s.entry n).present = false ∨ (s.entry n).missed < 3) →
    exec (.peerAbsent n) s = .next s)

/-- An own epoch in RUN over the share limit raises an entry's share run count, up to 10, and keeps the two currents;
one within it sets the count to 0 and ends the episode. The tenth epoch over the limit is reported once, with the two
currents compared. The comparison is made on the values held after the epoch's own sample (the model's order, log 26).
-/
def Obligations.ShareImbalanceReportedOnce : Prop :=
  (∀ (line : SynLine) (s : State), s.state = .run → epochReady s → s.setup.shareLimit ≠ 0 → s.peer.table.length = 8 →
    ∃ t, exec (.epoch line) s = .next t ∧
      (t.state = .run → ∀ (n : Fin 8) (f : PeerFrame), n ≠ s.straps.number → (s.entry n).present = true →
        (s.entry n).frame = some f → f.phase = s.straps.phase → s.straps.phase ≠ .any →
        (∀ own peer, t.meas.heldI = some own → f.iRms = some peer → s.setup.shareLimit < max own peer - min own peer →
          (t.entry n).shareRun = min 10 ((s.entry n).shareRun + 1) ∧
          (t.entry n).shareReported = (s.entry n).shareReported ∧
          ((s.entry n).shareReported = false → (t.entry n).shared = some (own, peer))) ∧
        ((t.meas.heldI = none ∨ f.iRms = none ∨ (∃ own peer, t.meas.heldI = some own ∧ f.iRms = some peer ∧
            max own peer - min own peer ≤ s.setup.shareLimit)) →
          (t.entry n).shareRun = 0 ∧ (t.entry n).shareReported = false ∧ (t.entry n).shared = none)) ∧
      (t.state = .run → ∀ n : Fin 8, (n = s.straps.number ∨ (s.entry n).present = false ∨ s.straps.phase = .any ∨
          (∃ f, (s.entry n).frame = some f ∧ f.phase ≠ s.straps.phase)) →
        (t.entry n).shareRun = (s.entry n).shareRun ∧ (t.entry n).shareReported = (s.entry n).shareReported) ∧
      (t.state ≠ .run → ∀ n : Fin 8, (t.entry n).shareRun = 0 ∧ (t.entry n).shareReported = false)) ∧
  (∀ (s : State) (n : Fin 8) (own peer : Nat), s.state = .run → (s.entry n).shareRun = 10 →
    (s.entry n).shareReported = false → (s.entry n).shared = some (own, peer) →
    ∃ al, exec (.shareImbalance n) s = .next { s with
        peer := { s.peer with table := s.peer.table.set n.val { s.entry n with shareReported := true } }
        report := stored s.report (.peerShare n own peer)
        alert := al } ∧ isFlagged 4 al ∧ onlyFlags s.alert al) ∧
  (∀ (s : State) (n : Fin 8), (s.state ≠ .run ∨ (s.entry n).shareRun ≠ 10 ∨ (s.entry n).shareReported = true) →
    exec (.shareImbalance n) s = .next s)

/-! ### Phase agreement -/

/-- At an own epoch with nothing due: run cycle in RUN, gate timer while waiting, epochs since onset in FAULT, the
ageing of every entry, the sample at angle 0 with the cue's advance, its word and what its crossing leaves due, and the
change that a FREQ cue past its activation sample waits for, with the start of that cue. A fault entry of the epoch cuts
the cue before both. A PHASE cue that starts at the epoch's sample does so in its row, before the judgement. Where an
activation of the epoch's instant has taken its sample, the row has the rest: gate timer, ageing, a MEAS_LOST held back,
the judgement. Station 0, LOCKED behind the judgement and not barred, begins its frame there, and no frame begins where
that does not hold. An event of an earlier instant that is still due is carried out first, in the order of its rows (the
model's choice, log 3). That the EPOCH takes its own sample, the start of the FREQ cue and a phase step with it, and
that an activation can take the sample before it, are the model's choice (logs 1, 3, 11, 26 and 36). -/
def Obligations.EpochCounts : Prop :=
  ∀ (line : SynLine) (s : State), s.joined = true → s.peer.table.length = 8 → StopLaw s →
   (s.pll.taken = .sample → exec (.epoch line) s = exec (.epoch line) { s with pll := { s.pll with taken := .none } }) ∧
   (epochReady s → ∃ t, exec (.epoch line) s = .next t ∧
      t.group.runCycle = s.group.runCycle + (if s.state = .run ∧ s.pll.taken = .none then 1 else 0) ∧
      (t.group.timeoutDue = true ↔ s.group.timeoutDue = true ∨
        (s.group.timerOn = true ∧ s.setup.gateLimit ≤ s.group.timer + 1)) ∧
      (s.state = .fault → s.cue.active = none → t.fault.epochs =
        if s.fault.offered = true ∨ s.pll.taken ≠ .none then s.fault.epochs else min 2 (s.fault.epochs + 1)) ∧
      (∀ n, (t.entry n).heard = false ∧ (t.entry n).present = (s.entry n).present ∧
        (t.entry n).frame = (s.entry n).frame ∧ (t.entry n).member = (s.entry n).member ∧
        (t.entry n).missed = if (s.entry n).present = true then
          (if (s.entry n).heard = true then 0 else min 3 ((s.entry n).missed + 1)) else (s.entry n).missed) ∧
      t.pll.falls = [] ∧ t.pll.atEpoch = true ∧ t.pll.taken = .none ∧
      t.setup = s.setup ∧ t.straps = s.straps ∧ t.port = s.port) ∧
   (s.pll.taken = .epoch → ∃ t, exec (.epoch line) s = .next t ∧
      (s.straps.number = 0 → frameBegun (sends t) (ownFrame t) s t) ∧
      (s.straps.number ≠ 0 → frameBegun False (ownFrame t) s t)) ∧
   (s.pll.taken = .none → settledTo s (settle s) ∧ exec (.epoch line) s = .next (takeEpoch line (settle s)) ∧
     (nothingDue (settle s) → exec (.epoch line) s = exec (.epoch line) (settle s))) ∧
   (s.pll.taken = .epoch →
     (s.meas.lossDue = false → ∃ t, exec (.epoch line) s = .next t ∧
       t.pll.sysAngle = s.pll.sysAngle ∧ t.pll.arc = s.pll.arc ∧ wordFollows s t ∧
       t.group.timer = s.group.timer + (if s.group.timerOn = true then 1 else 0) ∧
       (t.state = s.state → t.cue = s.cue ∧ t.report = s.report ∧ t.fault = s.fault ∧ t.sw = s.sw ∧
         t.synth.envelope = s.synth.envelope ∧ t.synth.stepOffset = s.synth.stepOffset ∧
         t.synth.activeSet = s.synth.activeSet ∧ t.meas.span = s.meas.span)) ∧
     (s.meas.lossDue = true → ∃ t, exec (.epoch line) s = .next t ∧ t.pll.taken = .none ∧ t.pll.falls = [] ∧
       (s.state = .run → t.state = .fault ∧ t.fault = episodeOf .measLost s) ∧
       (s.state = .fault → t.fault = { s.fault with secondary := min 255 (s.fault.secondary + 1) }))) ∧
   (s.pll.taken = .none → nothingDue s → ∃ t, exec (.epoch line) s = .next t ∧
      t.pll.sysAngle = 0 ∧ t.pll.arc = s.pll.adv + (3600 - s.pll.acc.whole) ∧ t.cue.handover ≠ .announced ∧
      epochSends line s t ∧
      (epochSteps line s = none → t.cue.handover = .none) ∧
      (epochSteps line s = none → freqWaits s = false → wordFormed s t ∧
        t.group.timer = s.group.timer + (if s.group.timerOn = true then 1 else 0)) ∧
      (epochSteps line s = none → t.state = s.state → freqWaits s = false →
        t.report = s.report ∧ t.cue = { s.cue with active := t.cue.active, handover := .none } ∧
        t.pll.runFreq = s.pll.runFreq ∧
        t.pll.pendingFreq = s.pll.pendingFreq ∧ (s.cue.active = none → t.cue.active = none) ∧
        (∀ a, s.cue.active = some a →
          (a.phase = .running → t.cue.active = some { a with advance := a.advance + t.pll.arc }) ∧
          (a.phase = .pendingAngle → a.awaiting = true →
            t.cue.active = some { a with awaiting := false, activationCycle := t.group.runCycle }) ∧
          (a.phase = .pendingAngle → a.awaiting = false → t.cue.active = some a)) ∧
        (s.synth.runStart = false → crossingLeavesDue s t ∧ t.synth.stepOffset = s.synth.stepOffset ∧
          t.synth.activeSet = s.synth.activeSet ∧ envelopeSampled t.pll.arc s t ∧ t.sw = transitionCounted s.sw) ∧
        (s.synth.runStart = true → (∀ a, s.cue.active = some a → a.phase = .pendingAngle) →
          t.synth.envelope = 0 ∧ t.synth.activeSet = .none ∧ t.synth.stepOffset = 0 ∧
          t.synth.runStart = false ∧ (s.sw.pending = none → s.sw.sw1 = false → t.sw.sw0 = true))) ∧
      (∀ a f, s.cue.active = some a → a.cue.kind = .freq → a.phase = .pendingAngle → a.awaiting = false →
        s.pll.pendingFreq = some f → epochSteps line s = none →
        (t.state = s.state → t.pll.runFreq = f ∧ t.meas.hc.freqChange = true ∧
          (∀ l, a.cue.ampA = some l → t.synth.envelope = l) ∧
          (s.synth.runStart = false → s.sw.pending = none →
            t.sw = switchesStarted a.cue s.cue.deferredGap s.setup.breakGap s.sw) ∧
          (a.cue.duration ≠ some 0 → t.pll.pendingFreq = none ∧
            t.cue = { s.cue with
              active := some (begun a t.group.runCycle (waveAngle t)), deferredGap := none, handover := .none } ∧
            t.meas.span = some (spanOf a.cue) ∧ t.report = s.report ∧ t.synth.wordDue = sampleBusy t ∧
            (s.synth.clampAsked = false → sampleBusy t = false → outputOn t = true →
              t.synth.word = wordNow t ∧ t.synth.lastValue = (limitedValue t.synth.clamp t).natAbs)) ∧
          (a.cue.duration = some 0 → s.state = .run → stationFreed a t.group.runCycle (waveAngle t) s t)) ∧
        (t.state ≠ s.state → t.pll.runFreq = s.pll.runFreq ∧ t.pll.pendingFreq = none ∧ t.cue.active = none ∧
          t.cue.ended = s.cue.ended + 1)) ∧
      (∀ a offset, s.state = .run → s.cue.active = some a → a.phase = .pendingAngle → a.cue.kind = .phase →
        a.cue.duration ≠ some 0 → s.synth.flicker = none → s.synth.stop = false → s.synth.runStart = false →
        s.sw.pending = none → epochSteps line s = some offset → t.synth.stepOffset = offset ∧
        (t.state = .run → phaseStarted a offset s t)))

/-- The judgement of a LOCKED station. In ARMED and RUN, half of a lag to 20, 20 above it, SYNC_LOST in RUN above 100 or
without a fall. In ENROLL, FAULT and RECOVER, half of a lag to 20, else a snap back to SEEKING, without a pull. A fall of
the epoch's own instant gives lag 0; without a fall nothing is corrected. In RUN the epoch's sample closes no lost
half-cycle; one that it closes makes the station's own fault entry first (the model's order, log 37). -/
def Obligations.LockedEpochJudgement : Prop :=
  (∀ (line : SynLine) (s : State), (s.state = .armed ∨ s.state = .run) → epochReady s → s.pll.sync = .locked → StopLaw s →
     (s.state = .run → s.pll.taken = .none → s.meas.v.produced ≠ 0 ∧ s.meas.i.produced ≠ 0) →
     (∀ f, s.pll.falls.getLast? = some f → line ≠ .falling → ¬(f.whole = 0 ∧ f.num = 0) → f.whole < 3600 →
       ∃ t, exec (.epoch line) s = .next t ∧ t.pll.lag = some (wholeLag f) ∧ t.pll.sync = .locked ∧
         t.pll.pull = true ∧
         t.pll.acc = { whole := if wholeLag f ≤ 20 then wholeLag f / 2 else 20, num := 0, den := 1 } ∧
         (s.state = .run → 100 < wholeLag f → t.state = .fault ∧ t.fault.cause = some .syncLost ∧
           t.fault.onset = s.group.runCycle + (if s.pll.taken = .none then 1 else 0)) ∧
         ((s.state = .armed ∨ wholeLag f ≤ 100) → t.state = s.state ∧ t.fault = s.fault)) ∧
     ((line = .falling ∨ ∃ f, s.pll.falls.getLast? = some f ∧ f.whole = 0 ∧ f.num = 0) →
       ∃ t, exec (.epoch line) s = .next t ∧ t.pll.lag = some 0 ∧ t.pll.acc = {} ∧ t.pll.sync = .locked ∧
         t.pll.pull = true ∧ t.state = s.state ∧ t.fault = s.fault) ∧
     (s.pll.falls = [] → line = .low →
       ∃ t, exec (.epoch line) s = .next t ∧ t.pll.lag = none ∧ t.pll.acc = {} ∧ t.pll.pull = true ∧
         (s.state = .run → t.state = .fault ∧ t.fault.cause = some .syncLost) ∧
         (s.state = .armed → t.state = .armed)) ∧
     (s.pll.falls = [] → line = .high →
       ∃ t, exec (.epoch line) s = .next t ∧ t.pll.lag = some 0 ∧ t.pll.acc = {} ∧ t.pll.pull = true ∧
         t.state = s.state)) ∧
  (∀ (line : SynLine) (s : State), (s.state = .enroll ∨ s.state = .fault ∨ s.state = .recover) →
     epochReady s → s.pll.sync = .locked → StopLaw s →
     (∀ f, s.pll.falls.getLast? = some f → line ≠ .falling → ¬(f.whole = 0 ∧ f.num = 0) → f.whole < 3600 →
       ∃ t, exec (.epoch line) s = .next t ∧ t.pll.lag = some (wholeLag f) ∧ t.state = s.state ∧
         (wholeLag f ≤ 20 → t.pll.sync = .locked ∧ t.pll.pull = true ∧
           t.alert.pending.getLsbD 6 = s.alert.pending.getLsbD 6 ∧
           t.pll.acc = { whole := wholeLag f / 2, num := 0, den := 1 }) ∧
         (20 < wholeLag f → t.pll.sync = .seeking ∧ t.pll.pull = false ∧ isFlagged 6 t.alert ∧
           t.pll.lockCount = 0 ∧ t.pll.silentCount = 0 ∧ t.pll.acc = lagAngle f ∧ t.meas.hc.irregular = true)) ∧
     ((line = .falling ∨ (∃ f, s.pll.falls.getLast? = some f ∧ f.whole = 0 ∧ f.num = 0) ∨
         (s.pll.falls = [] ∧ line = .high)) →
       ∃ t, exec (.epoch line) s = .next t ∧ t.pll.lag = some 0 ∧ t.pll.acc = {} ∧ t.pll.sync = .locked ∧
         t.pll.pull = true ∧ t.state = s.state) ∧
     (s.pll.falls = [] → line = .low →
       ∃ t, exec (.epoch line) s = .next t ∧ t.pll.lag = none ∧ t.pll.acc = {} ∧ t.pll.sync = .locked ∧
         t.pll.pull = true ∧ t.state = s.state))

/-- The judgement of a SEEKING station: the lock count, the silent count, the correction or the snap. It stays SEEKING
without a pull while the lock count is below 4 and the silent count below 2; at 4 and at 2 the model has the epoch's LOCK
or FOUNDER as a step of its own (the model's choice, log 3), which makes it LOCKED and pulling. -/
def Obligations.SeekingEpochCountsTowardsLock : Prop :=
  ∀ (line : SynLine) (s : State), s.joined = true → epochReady s → s.pll.sync = .seeking →
    (∀ f, s.pll.falls.getLast? = some f → line ≠ .falling → ¬(f.whole = 0 ∧ f.num = 0) → f.whole < 3600 →
      ∃ t, exec (.epoch line) s = .next t ∧ t.pll.silentCount = 0 ∧ t.pll.lag = some (wholeLag f) ∧
        t.pll.lockCount = (if wholeLag f ≤ 5 then min 4 (s.pll.lockCount + 1) else 0) ∧
        t.pll.acc = (if wholeLag f ≤ 20 then { whole := wholeLag f / 2, num := 0, den := 1 } else lagAngle f) ∧
        (20 < wholeLag f → t.meas.hc.irregular = true) ∧ locksAt 4 t) ∧
    ((line = .falling ∨ ∃ f, s.pll.falls.getLast? = some f ∧ f.whole = 0 ∧ f.num = 0) →
      ∃ t, exec (.epoch line) s = .next t ∧ t.pll.silentCount = 0 ∧ t.pll.lag = some 0 ∧
        t.pll.lockCount = min 4 (s.pll.lockCount + 1) ∧ t.pll.acc = {} ∧ locksAt 4 t) ∧
    (s.pll.falls = [] → line ≠ .falling →
      ∃ t, exec (.epoch line) s = .next t ∧ t.pll.lockCount = 0 ∧
        t.pll.silentCount = min 2 (s.pll.silentCount + 1) ∧ t.pll.acc = {} ∧ t.pll.lag = none ∧
        (t.pll.silentCount < 2 → t.pll.sync = .seeking ∧ t.pll.pull = false) ∧
        (t.pll.silentCount = 2 → ∃ u, exec .founder t = .next u ∧ u.pll.sync = .locked ∧ u.pll.pull = true ∧
          u.pll.silentCount = 0))

/-- LOCK at a lock count of 4, FOUNDER at a silent count of 2: LOCKED with both counts 0, the pull begun, SYNC_CHANGE
pending outside RUN; readiness is judged, and station 0, not barred, begins its frame where the epoch's slot begins. The
founder's own fall gives its window a lag of 0; without its count neither does anything. -/
def Obligations.LockAndFounderBeginPull : Prop :=
  (∀ s : State, s.joined = true → s.pll.sync = .seeking → s.pll.lockCount = 4 →
    ∃ t, exec .lock s = .next t ∧
      t.pll = { s.pll with sync := .locked, lockCount := 0, silentCount := 0, pull := true, pullAdv := 0 } ∧
      (s.state ≠ .run → isFlagged 6 t.alert) ∧ onlyFlags s.alert t.alert ∧ gateJudged s.group t ∧
      t.state = s.state ∧ t.cue = s.cue ∧ t.fault = s.fault ∧ t.synth = s.synth ∧ t.meas = s.meas ∧
      t.report = s.report ∧ t.peer.table = s.peer.table ∧
      frameBegun (s.straps.number = 0 ∧ s.pll.atEpoch = true ∧ s.peer.barred = false) (ownFrame t) s t) ∧
  (∀ s : State, s.joined = true → s.pll.sync = .seeking → s.pll.silentCount = 2 →
    ∃ t, exec .founder s = .next t ∧
      t.pll = { s.pll with
        sync := .locked, lockCount := 0, silentCount := 0, lag := some 0, pull := true, pullAdv := 0 } ∧
      (s.state ≠ .run → isFlagged 6 t.alert) ∧ onlyFlags s.alert t.alert ∧ gateJudged s.group t ∧
      t.state = s.state ∧ t.cue = s.cue ∧ t.fault = s.fault ∧ t.synth = s.synth ∧ t.meas = s.meas ∧
      t.report = s.report ∧ t.peer.table = s.peer.table ∧
      frameBegun (s.straps.number = 0 ∧ s.pll.atEpoch = true ∧ s.peer.barred = false) (ownFrame t) s t) ∧
  (∀ s : State, (s.state = .config ∨ s.pll.sync = .locked ∨ s.pll.lockCount ≠ 4) → exec .lock s = .next s) ∧
  (∀ s : State, (s.state = .config ∨ s.pll.sync = .locked ∨ s.pll.silentCount ≠ 2) → exec .founder s = .next s)

/-- The end of the pull, 10 units of advance behind the epoch, releases TK_SYN; it has no effect while the next sample
still lies within them (the model's reading, log 42). A joined station notes a fall with its accumulator; a fall of the
very instant of an epoch already taken belongs to the window judged there (the model's reading, log 28); a station in
CONFIG notes none. -/
def Obligations.SyncLineIsWatched : Prop :=
  (∀ s : State, 10 ≤ s.pll.pullAdv + (s.pll.acc.whole / 5 * 5 + 5 - s.pll.acc.whole) →
    exec .syncPullEnd s = .next { s with pll := { s.pll with pull := false } }) ∧
  (∀ s : State, s.pll.pullAdv + (s.pll.acc.whole / 5 * 5 + 5 - s.pll.acc.whole) < 10 → exec .syncPullEnd s = .next s) ∧
  (∀ (w n d : Nat) (s : State),
    let ofPast := s.pll.atEpoch = true ∧
      ((w * d + n) * s.pll.acc.den = (s.pll.acc.whole * s.pll.acc.den + s.pll.acc.num) * d ∨
        (w = 0 ∧ n = 0 ∧ s.pll.acc.whole / 5 * 5 + 5 < 3600))
    (s.joined = true → ¬ ofPast → exec (.syncFallNoted w n d) s = .next { s with pll := { s.pll with
      falls := s.pll.falls ++ [{ whole := w, num := n, den := d }] } }) ∧
    (ofPast → exec (.syncFallNoted w n d) s = .next s)) ∧
  (∀ (w n d : Nat) (s : State), s.state = .config → exec (.syncFallNoted w n d) s = .next s)

/-! ### Samples and the output -/

/-- The next sample: the next multiple of 5 above the accumulator; its arc ends a pull that it carries past 10 units.
The sample at the wrap is the epoch's, which EPOCH takes (EpochCounts), so a SAMPLE there changes nothing, also where an
activation has taken that sample (the model's reading, logs 1 and 11). The sample of a joined station that is quiet and
without output moves the angle on, sends the word 0 and begins the own frame at the own slot. That this frame shows the
held values of a half-cycle that closes at that very sample is the model's choice (log 40). At every sample of a joined
station an event of an earlier instant that is still due is carried out first, in the order of its rows (the model's
choice, log 3). -/
def Obligations.SampleMovesAngle : Prop :=
  (∀ p : PhaseLock, p.acc.whole / 5 * 5 + 5 < 3600 → nextSample p = some { p with
    sysAngle := p.acc.whole / 5 * 5 + 5, arc := p.adv + (p.acc.whole / 5 * 5 + 5 - p.acc.whole), adv := 0
    acc := { whole := p.acc.whole / 5 * 5 + 5, num := 0, den := 1 }, atEpoch := false
    pull := p.pull && decide (p.pullAdv + (p.acc.whole / 5 * 5 + 5 - p.acc.whole) < 10)
    pullAdv := min 10 (p.pullAdv + (p.acc.whole / 5 * 5 + 5 - p.acc.whole)) }) ∧
  (∀ p : PhaseLock, 3600 ≤ p.acc.whole / 5 * 5 + 5 → nextSample p = none) ∧
  (∀ s : State, (s.state = .config ∨ s.pll.taken = .epoch ∨
      (s.pll.taken = .none ∧ 3600 ≤ s.pll.acc.whole / 5 * 5 + 5)) →
    exec .sample s = .next s) ∧
  (∀ (s : State) (p : PhaseLock), s.joined = true → s.pll.taken = .none → quiet s → nothingDue s → outputOn s = false →
    nextSample s.pll = some p →
    ∃ t, exec .sample s = .next t ∧ t.pll = p ∧ t.synth.word = 0 ∧ t.synth.wordDue = false ∧
      t.synth.envelope = s.synth.envelope ∧ t.synth.activeSet = s.synth.activeSet ∧
      t.synth.stepOffset = s.synth.stepOffset ∧ t.synth.sets = s.synth.sets ∧ t.state = s.state ∧
      t.cue = { s.cue with handover := .none } ∧
      t.group = s.group ∧ t.fault = s.fault ∧ t.report = s.report ∧ t.sw = s.sw ∧ t.setup = s.setup ∧
      t.port = s.port ∧ onlyFlags s.alert t.alert ∧ t.peer.table = s.peer.table ∧
      sampleSends (ownFrame t) s t) ∧
  (∀ (s : State) (q : PhaseLock), s.joined = true → s.pll.taken = .none → nextSample s.pll = some q →
    settledTo s (settle s) ∧
    exec .sample s = .next (match nextSample (settle s).pll with
      | some p => takeSample p (settle s)
      | none => settle s) ∧
    (nothingDue (settle s) → exec .sample s = exec .sample (settle s)))

/-- A sample with output. In RUN: advance of the active cue, the first sample's run start, a RAMP's level, the count of
a pending closing, what a crossing leaves due, and the word of what the state then holds, with its magnitude kept and a
clipped one counted in the span; MEAS_LOST at a crossing is the one cause it can pass. A sample at which a PHASE cue
starts makes the step in its row, and its crossings lie on the arc as placed after the step (that the row carries out
what is due there is the model's choice, log 36). The row of a sample that an activation of its instant has taken passes
the MEAS_LOST held back and else changes nothing but a word still to be sent (log 1). In FAULT with the stop under way
the words go on, and a crossing leaves the stop due. A LOCKED station, not barred, begins its frame at the sample that
reaches its own slot, and no other sample begins one (its place in the sample is the model's choice, log 40). -/
def Obligations.SampleFormsWord : Prop :=
  (∀ (s : State) (p : PhaseLock), s.state = .run → s.pll.taken = .none → nothingDue s → nextSample s.pll = some p →
    sampleSteps p s = none →
    ∃ t, exec .sample s = .next t ∧ t.pll = { p with pendingFreq := t.pll.pendingFreq } ∧
      (t.state = .run ∨ (t.state = .fault ∧ t.fault.cause = some .measLost)) ∧
      t.setup = s.setup ∧ t.straps = s.straps ∧ t.port = s.port ∧
      sampleSends (ownFrame t) s t ∧ wordFormed s t ∧
      (t.state = .run → t.fault = s.fault ∧ t.report = s.report ∧ t.pll = p ∧ t.peer.table = s.peer.table ∧
        t.group = s.group ∧ t.cue = { s.cue with active := t.cue.active, handover := .none } ∧
        (s.cue.active = none → t.cue.active = none) ∧
        (∀ a, s.cue.active = some a → a.phase = .running →
          t.cue.active = some { a with advance := a.advance + p.arc }) ∧
        (∀ a, s.cue.active = some a → a.phase = .pendingAngle → a.awaiting = true →
          t.cue.active = some { a with awaiting := false, activationCycle := s.group.runCycle }) ∧
        (∀ a, s.cue.active = some a → a.phase = .pendingAngle → a.awaiting = false → t.cue.active = some a) ∧
        (s.synth.runStart = true → (∀ a, s.cue.active = some a → a.phase = .pendingAngle) →
          t.synth.envelope = 0 ∧ t.synth.activeSet = .none ∧ t.synth.stepOffset = 0 ∧
          t.synth.runStart = false ∧ (s.sw.pending = none → s.sw.sw1 = false → t.sw.sw0 = true)) ∧
        (s.synth.runStart = false → crossingLeavesDue s t ∧ t.synth.stepOffset = s.synth.stepOffset ∧
          t.synth.activeSet = s.synth.activeSet ∧ envelopeSampled p.arc s t ∧ t.sw = transitionCounted s.sw))) ∧
  (∀ (s : State) (p : PhaseLock) (a : ActiveCue) (offset : Nat), s.state = .run → s.pll.taken = .none →
    nothingDue s → nextSample s.pll = some p → s.cue.active = some a → a.phase = .pendingAngle → a.cue.kind = .phase →
    a.cue.duration ≠ some 0 → s.synth.flicker = none → s.synth.stop = false → s.synth.runStart = false →
    s.sw.pending = none → sampleSteps p s = some offset →
    ∃ t, exec .sample s = .next t ∧ (t.state = .run ∨ (t.state = .fault ∧ t.fault.cause = some .measLost)) ∧
      t.setup = s.setup ∧ t.port = s.port ∧ sampleSends (frameAtSample s t) s t ∧
      (t.state = .run → t.fault = s.fault ∧ t.report = s.report ∧ t.pll = p ∧ gateJudged s.group t ∧
        phaseStarted a offset s t)) ∧
  (∀ s : State, s.joined = true → s.pll.taken = .sample →
    let u := { s with pll := { s.pll with taken := .none } }
    (s.meas.lossDue = false → ∃ t, exec .sample s = .next t ∧ t = { u with synth := t.synth } ∧ wordFollows s t) ∧
    (s.meas.lossDue = true → ∃ v t, exec .sample s = .next t ∧
      causePassed .measLost (s.state = .run) { u with meas := { s.meas with lossDue := false } } v ∧
      t = { v with synth := t.synth } ∧ wordFollows v t)) ∧
  (∀ (s : State) (p : PhaseLock), s.state = .fault → s.fault.stopComplete = false → s.pll.taken = .none → nothingDue s →
    s.synth.runStart = false → nextSample s.pll = some p → sampleSteps p s = none →
    ∃ t, exec .sample s = .next t ∧ t.pll = p ∧ t.state = .fault ∧ t.fault = s.fault ∧ t.report = s.report ∧
      t.group = s.group ∧ t.setup = s.setup ∧ t.port = s.port ∧ t.peer.table = s.peer.table ∧
      sampleSends (ownFrame t) s t ∧ wordFormed s t ∧ t.synth.stop = s.synth.stop ∧
      t.synth.activeSet = s.synth.activeSet ∧ t.synth.stepOffset = s.synth.stepOffset ∧
      t.sw = transitionCounted s.sw ∧ envelopeSampled p.arc s t ∧
      (s.cue.active = none → t.cue = { s.cue with handover := .none }) ∧ crossingLeavesDue s t) ∧
  (∀ t : State, (t.cue.active = none → stepsAhead false t = none) ∧
    (∀ a, t.cue.active = some a → a.phase = .running → completionDue t = false →
      stepsAhead false t = none) ∧
    (∀ a, t.cue.active = some a → a.phase = .pendingAngle →
      (a.awaiting = true ∨ ¬ startReached a t ∨ (a.cue.kind ≠ .phase ∧ a.cue.duration ≠ some 0)) →
      stepsAhead false t = none) ∧
    (∀ a, t.cue.active = some a → a.phase = .pendingAngle → a.awaiting = false → startReached a t →
      a.cue.kind = .phase → a.cue.duration ≠ some 0 →
      stepsAhead false t = if a.cue.phaseDelta.getD 0 = 0 then none
        else some ((t.synth.stepOffset + a.cue.phaseDelta.getD 0) % 3600).toNat))

/-- The word of a value: full scale at 2000, the nearest whole number, a half away from zero, odd in its sign, so that
the nominal peak, which is such a half, is 262 144; limiting keeps a value of the level's magnitude at most. The word
has twenty bits on DDAT, the most significant first. -/
def Obligations.OutputWordScale : Prop :=
  (wordOf clipValue).toInt = 524287 ∧ wordOf 0 = 0 ∧ (∀ v : Int, wordOf (-v) = -wordOf v) ∧
  (∀ v : Int, v.natAbs ≤ clipValue →
    (2 * ((wordOf v).toInt * clipValue) - 2 * (v * 524287)).natAbs ≤ clipValue ∧
    (wordOf v).toInt.natAbs ≤ 524287) ∧
  (∀ v : Nat, v ≤ clipValue → (wordOf v).toInt = (2 * (v * 524287) + clipValue) / (2 * clipValue)) ∧
  ((wordOf (1000 * Config.valueOne)).toInt = 262144 ∧ (wordOf (-(1000 * Config.valueOne : Nat))).toInt = -262144) ∧
  (∀ (level : Nat) (v : Int), (limitTo level v).natAbs ≤ level ∧ (v.natAbs ≤ level → limitTo level v = v) ∧
    (level < v.natAbs → (limitTo level v).natAbs = level) ∧ 0 ≤ limitTo level v * v) ∧
  (∀ w : BitVec 20, (wordBits w).length = 20 ∧ ∀ i < 20, (wordBits w).getD i false = w.getLsbD (19 - i))

/-! ### Cues -/

/-- CUE_START of a cue that is not of duration 0: RUNNING, the span opened, and the start requests of its kind. A FREQ
cue starts with the frequency change of its epoch (EpochCounts), so it has no step of its own here. -/
def Obligations.CueStartMakesRequests : Prop :=
  (∀ (s : State) (a : ActiveCue), s.cue.active = some a → a.phase = .pendingAngle → a.awaiting = false →
    startReached a s → a.cue.duration ≠ some 0 →
    ∃ t, exec .cueStart s = .next t ∧ trunkKept s t ∧ t.pll = s.pll ∧ t.report = s.report ∧ t.alert = s.alert ∧
      gateJudged s.group t ∧ wordFollows s t ∧ startsMade a s t) ∧
  (∀ s : State, (s.cue.active = none ∨ (∃ a, s.cue.active = some a ∧
      (a.phase = .running ∨ a.awaiting = true ∨ ¬ startReached a s))) →
    exec .cueStart s = .next s)

/-- CUE_START of a cue of duration 0 in RUN: the start requests of its kind, and the station is free at once. Without a
head QUEUE_DRY goes pending; a GROUP head waits; a LOCAL head supersedes the cue at this sample, with its CUE_END. -/
def Obligations.DurationZeroStartFreesStation : Prop :=
  ∀ (s : State) (a : ActiveCue), s.state = .run → s.cue.active = some a → a.phase = .pendingAngle →
    a.awaiting = false → startReached a s → a.cue.duration = some 0 →
    ∃ t, exec .cueStart s = .next t ∧ trunkKept s t ∧ onlyFlags s.alert t.alert ∧
      gateJudged s.group t ∧ stationFreed a s.group.runCycle (waveAngle s) s t ∧ wordFollows s t ∧
      ((∀ c cs, s.cue.queue = c :: cs → c.gate = .group) → startsMade a s t ∧ t.pll = s.pll) ∧
      (∀ c cs, s.cue.queue = c :: cs → c.gate = .localCue → t.meas.span = none ∧
        (a.cue.kind ≠ .ramp → a.cue.kind ≠ .endRun → t.synth.envelope = a.cue.ampA.getD s.synth.envelope) ∧
        (a.cue.kind = .harmonic → t.synth.activeSet = a.cue.harmonicSet.getD .none) ∧
        (a.cue.kind = .phase → a.cue.phaseDelta.getD 0 ≠ 0 →
          t.synth.stepOffset = ((s.synth.stepOffset + a.cue.phaseDelta.getD 0) % 3600).toNat) ∧
        (a.cue.kind ≠ .endRun → closeDue s = false →
          t.sw = switchesStarted a.cue s.cue.deferredGap s.setup.breakGap s.sw)) ∧
      (∀ c cs, s.cue.queue = c :: cs → c.gate = .group → t.alert = s.alert)

/-- CUE_COMPLETION at the sample where a nonzero duration has advanced: CUE_END with DONE, CUE_DONE, the end requests of
its kind, and the next step of a free station. The row of a completion that the row of another command has made changes
nothing but the note of it (log 36). At a cue of duration 0, once what is due is carried out, the row announces that the
cue ends at the coming sample, where an opening or an append behind it activates the successor; while a sample is taken
with such an activation it changes nothing (a sign of the model, log 1). -/
def Obligations.CompletionEndsCue : Prop :=
  (∀ (s : State) (a : ActiveCue) (n : Nat), s.state = .run → s.cue.active = some a → a.phase = .running →
    a.cue.duration = some n → n ≠ 0 → n * 1800 ≤ a.advance → closeDue s = false → s.cue.handover ≠ .made →
    ∃ t, exec .cueCompletion s = .next t ∧ trunkKept s t ∧ gateJudged s.group t ∧ wordFollows s t ∧
      t.report = stored s.report (endRecord s a .done) ∧ isFlagged 10 t.alert ∧ onlyFlags s.alert t.alert ∧
      t.cue.ended = s.cue.ended + 1 ∧ t.cue.accepted = s.cue.accepted ∧ t.cue.discarded = s.cue.discarded ∧
      t.meas.span = none ∧ t.synth.stop = s.synth.stop ∧ t.synth.activeSet = s.synth.activeSet ∧
      t.synth.stepOffset = s.synth.stepOffset ∧
      (a.cue.kind = .flicker → t.synth.envelope = a.cue.ampA.getD s.synth.envelope ∧ t.synth.flicker = none) ∧
      (a.cue.kind ≠ .flicker → t.synth.envelope = s.synth.envelope ∧ t.synth.flicker = s.synth.flicker) ∧
      (s.cue.queue = [] → t.cue.active = none ∧ t.cue.queue = [] ∧ t.cue.started = s.cue.started ∧
        isFlagged 9 t.alert ∧ t.pll = s.pll) ∧
      (∀ c cs, s.cue.queue = c :: cs → c.gate = .group → t.cue.active = none ∧ t.cue.queue = s.cue.queue ∧
        t.cue.started = s.cue.started ∧ t.pll = s.pll) ∧
      (∀ c cs, s.cue.queue = c :: cs → c.gate = .localCue → t.cue.queue = cs ∧
        t.cue.started = s.cue.started + 1 ∧ (cs.length ≤ s.setup.watermark → isFlagged 8 t.alert) ∧
        ∃ b, t.cue.active = some b ∧ b.cue = c ∧ b.phase = .pendingAngle ∧ b.awaiting = false) ∧
      (a.cue.kind ≠ .gap → t.sw = s.sw) ∧
      (∀ m, a.cue.kind = .gap → a.cue.switchMode = some m → s.cue.queue = [] →
        t.sw = gapEnded m s.setup.breakGap s.sw) ∧
      (∀ m c cs, a.cue.kind = .gap → a.cue.switchMode = some m → s.cue.queue = c :: cs → c.gate = .group →
        t.sw = gapEnded m s.setup.breakGap s.sw) ∧
      (∀ m c cs, a.cue.kind = .gap → a.cue.switchMode = some m → s.cue.queue = c :: cs → c.gate = .localCue →
        (c.kind = .gap → angleReached c s → t.sw = s.sw ∧ t.cue.deferredGap = some m) ∧
        (c.kind = .gap → ¬ angleReached c s → t.sw = gapEnded m s.setup.breakGap s.sw) ∧
        (c.kind ≠ .gap → t.sw = gapEnded m s.setup.breakGap s.sw))) ∧
  (∀ s : State, s.cue.handover = .made →
    exec .cueCompletion s = .next { s with cue := { s.cue with handover := .none } }) ∧
  (∀ s : State, s.cue.handover ≠ .made → (s.cue.active = none ∨ (∃ a, s.cue.active = some a ∧ (a.phase = .pendingAngle ∨
      a.cue.duration = none ∨ ∃ n, a.cue.duration = some n ∧
        ((n = 0 ∧ (s.state ≠ .run ∨ s.cue.handover ≠ .none ∨ s.pll.taken ≠ .none)) ∨
          (n ≠ 0 ∧ a.advance < n * 1800))))) →
    exec .cueCompletion s = .next s) ∧
  (∀ (s : State) (a : ActiveCue), s.state = .run → s.cue.active = some a → a.phase = .running →
    a.cue.duration = some 0 → s.cue.handover = .none → s.pll.taken = .none →
    exec .cueCompletion s = .next (if (settle s).state = .run ∧ holdsOpen (settle s) = true
      then { settle s with cue := { (settle s).cue with handover := .announced } } else settle s) ∧
    (nothingDue s → exec .cueCompletion s = .next { s with cue := { s.cue with handover := .announced } }))

/-- RAMP_END marks the ramp complete at A; FLICKER_BOUNDARY arms a change; FLICKER_CHANGE makes it at the crossing. -/
def Obligations.RampAndFlickerSteps : Prop :=
  (∀ (s : State) (a : ActiveCue), s.cue.active = some a → a.phase = .running → a.cue.kind = .ramp →
    a.rampDone = false → a.cue.rampLength.getD 0 * 1800 ≤ a.advance →
    ∃ t, exec .rampEnd s = .next t ∧ trunkKept s t ∧ t.pll = s.pll ∧ t.report = s.report ∧ t.alert = s.alert ∧
      t.group = s.group ∧ t.sw = s.sw ∧ wordFollows s t ∧
      t.cue = { s.cue with active := some { a with rampDone := true } } ∧
      t.synth.envelope = a.cue.ampA.getD s.synth.envelope ∧ t.synth.activeSet = s.synth.activeSet ∧
      t.meas.span = s.meas.span.map (fun sp => { sp with rampEnded := true })) ∧
  (∀ s : State, (s.cue.active = none ∨ ∃ a, s.cue.active = some a ∧ (a.phase = .pendingAngle ∨
      a.cue.kind ≠ .ramp ∨ a.rampDone = true ∨ a.advance < a.cue.rampLength.getD 0 * 1800)) →
    exec .rampEnd s = .next s) ∧
  (∀ s : State, exec .flickerBoundary s = .next { s with synth := { s.synth with
    flicker := s.synth.flicker.map (fun f => { f with armed := true }) } }) ∧
  (∀ (s : State) (a : ActiveCue) (f : FlickerLevels), s.synth.flickerDue = true → s.cue.active = some a →
    s.synth.flicker = some f →
    ∃ t, exec .flickerChange s = .next t ∧ trunkKept s t ∧ t.pll = s.pll ∧ t.report = s.report ∧
      t.alert = s.alert ∧ t.group = s.group ∧ t.sw = s.sw ∧ t.meas = s.meas ∧ wordFollows s t ∧
      t.cue = { s.cue with active := some { a with toggles := a.toggles + 1 } } ∧
      t.synth.envelope = (if a.toggles % 2 = 0 then f.a2 else f.a) ∧
      t.synth.flicker = some { f with armed := false } ∧ t.synth.flickerDue = false) ∧
  (∀ s : State, s.synth.flickerDue = false → exec .flickerChange s = .next s)

/-! ### Stops, switches, clamp -/

/-- STOP_COMPLETION: output and switches at rest and the word 0; a fault's stop is complete, an END cue's closes the
run with CUE_END and RUN_END. -/
def Obligations.StopCompletionZeroesOutput : Prop :=
  (∀ s : State, s.synth.stopDue = true → s.state = .fault → s.cue.active = none → closeDue s = false →
    ∃ m, exec .stopCompletion s = .next { s with
        synth := { s.synth with
          envelope := 0, flicker := none, stepOffset := 0, activeSet := .none, clamp := none, clampAsked := false, stop := false
          lastValue := 0, word := 0, wordDue := false, flickerDue := false, stopDue := false
          clampEndDue := false }
        sw := { s.sw with sw0 := false, pending := none }
        meas := m
        fault := { s.fault with stopComplete := true }
        pll := { s.pll with runFreq := s.setup.nominal } } ∧
      m = { s.meas with hc := { s.meas.hc with switchChange := s.sw.sw0 || s.meas.hc.switchChange } }) ∧
  (∀ (s : State) (a : ActiveCue), s.synth.stopDue = true → s.state = .run → s.cue.active = some a →
    a.cue.kind = .endRun → a.stopRequested = true → closeDue s = false →
    ∃ t, exec .stopCompletion s = .next t ∧ t.state = .enroll ∧
      t.synth = { s.synth with
        envelope := 0, flicker := none, stepOffset := 0, activeSet := .none, clamp := none, clampAsked := false, stop := false
        lastValue := 0, word := 0, wordDue := false, flickerDue := false, stopDue := false
        clampEndDue := false } ∧
      t.sw = { s.sw with sw0 := false, pending := none } ∧
      t.cue = { s.cue with active := none, ended := s.cue.ended + 1 } ∧
      t.group = { s.group with
        drive := .notDriven, pulse := false, timer := 0, timerOn := false, timeoutDue := false
        tagCounts := List.replicate 8 0, tagDue := 0 } ∧
      t.pll = { s.pll with runFreq := s.setup.nominal } ∧
      t.report = storedAll s.report [endRecord s a .done,
        .runEnd .endCue s.group.runCycle (s.cue.ended + 1 - s.group.endedAtOpen)] ∧
      isFlagged 10 t.alert ∧ isFlagged 11 t.alert ∧ onlyFlags s.alert t.alert ∧ t.meas.span = none ∧
      t.peer = { s.peer with table := s.peer.table.map (fun e =>
        { e with member := false, shareRun := 0, shareReported := false, shared := none }) } ∧
      t.fault = s.fault ∧ t.setup = s.setup ∧ t.port = s.port) ∧
  (∀ s : State, s.synth.stopDue = false → exec .stopCompletion s = .next s)

/-- PENDING_TRANSITION_CLOSE closes the named switch unless the other is closed, and clears the record; CLAMP_END ends
the clamp. -/
def Obligations.TransitionClosesAndClampEnds : Prop :=
  (∀ s : State, s.sw.pending = some ⟨.sw0, 0⟩ →
    ∃ t, exec .pendingTransitionClose s = .next t ∧ trunkKept s t ∧ t.pll = s.pll ∧ t.report = s.report ∧
      t.alert = s.alert ∧ t.group = s.group ∧ t.cue = s.cue ∧ wordFollows s t ∧
      t.sw = { sw0 := s.sw.sw0 || !s.sw.sw1, sw1 := s.sw.sw1, pending := none } ∧
      t.meas = { s.meas with hc := { s.meas.hc with
        switchChange := s.meas.hc.switchChange || (!s.sw.sw0 && !s.sw.sw1) } }) ∧
  (∀ s : State, s.sw.pending = some ⟨.sw1, 0⟩ →
    ∃ t, exec .pendingTransitionClose s = .next t ∧ trunkKept s t ∧ t.pll = s.pll ∧ t.report = s.report ∧
      t.alert = s.alert ∧ t.group = s.group ∧ t.cue = s.cue ∧ wordFollows s t ∧
      t.sw = { sw0 := s.sw.sw0, sw1 := s.sw.sw1 || !s.sw.sw0, pending := none } ∧
      t.meas = { s.meas with hc := { s.meas.hc with
        switchChange := s.meas.hc.switchChange || (!s.sw.sw0 && !s.sw.sw1) } }) ∧
  (∀ s : State, (s.sw.pending = none ∨ ∃ w n, s.sw.pending = some ⟨w, n + 1⟩) →
    exec .pendingTransitionClose s = .next s) ∧
  (∀ s : State, s.synth.clampEndDue = true →
    ∃ t, exec .clampEnd s = .next t ∧ trunkKept s t ∧ t.pll = s.pll ∧ t.report = s.report ∧ t.alert = s.alert ∧
      t.group = s.group ∧ t.cue = s.cue ∧ t.sw = s.sw ∧ t.meas = s.meas ∧ wordFollows s t ∧
      ((s.synth.clampAsked = false ∨ t.synth.wordDue = s.synth.wordDue) → t.synth.clamp = none) ∧
      t.synth.clampEndDue = false ∧ t.synth.envelope = s.synth.envelope ∧
      t.synth.stop = s.synth.stop) ∧
  (∀ s : State, s.synth.clampEndDue = false → exec .clampEnd s = .next s)

/-! ### Measurement -/

/-- DECIMATOR_RESULT: an interval of one level is withheld and restarts settling; a result is discarded while the
channel settles, else accumulated; a current above the limit marks the half-cycle and asks for the clamp, which a word
still to be sent keeps waiting (the model's reading, log 34). The comb's weights count the ways of R145, and the result
is the nearest whole number. -/
def Obligations.DecimatorResults : Prop :=
  (∀ (s : State) (bits : List Bool), s.meas.running = true → bits.length = s.setup.ratio →
    ((∀ b ∈ bits, b = true) ∨ (∀ b ∈ bits, b = false)) →
    exec (.decimatorResult .voltage bits) s = .next { s with meas := { s.meas with v := { s.meas.v with
      window := (bits.reverse ++ s.meas.v.window).take (3 * s.setup.ratio - 2), settle := 3 } } } ∧
    exec (.decimatorResult .current bits) s = .next { s with meas := { s.meas with i := { s.meas.i with
      window := (bits.reverse ++ s.meas.i.window).take (3 * s.setup.ratio - 2), settle := 3 } } }) ∧
  (∀ (s : State) (bits : List Bool), s.meas.running = true → bits.length = s.setup.ratio →
    true ∈ bits → false ∈ bits →
    (∀ k, s.meas.v.settle = k + 1 →
      exec (.decimatorResult .voltage bits) s = .next { s with meas := { s.meas with v := { s.meas.v with
        window := (bits.reverse ++ s.meas.v.window).take (3 * s.setup.ratio - 2)
        settle := k, produced := s.meas.v.produced + 1, discarded := s.meas.v.discarded + 1 } } }) ∧
    (∀ k, s.meas.i.settle = k + 1 →
      exec (.decimatorResult .current bits) s = .next { s with meas := { s.meas with i := { s.meas.i with
        window := (bits.reverse ++ s.meas.i.window).take (3 * s.setup.ratio - 2)
        settle := k, produced := s.meas.i.produced + 1, discarded := s.meas.i.discarded + 1 } } }) ∧
    (∀ w r, w = (bits.reverse ++ s.meas.v.window).take (3 * s.setup.ratio - 2) →
      r = (combResult s.setup.ratio w).natAbs → s.meas.v.settle = 0 →
      exec (.decimatorResult .voltage bits) s = .next { s with meas := { s.meas with v := { s.meas.v with
        window := w, produced := s.meas.v.produced + 1, settled := s.meas.v.settled + 1
        sumSq := s.meas.v.sumSq + r * r } } }) ∧
    (∀ w r, w = (bits.reverse ++ s.meas.i.window).take (3 * s.setup.ratio - 2) →
      r = (combResult s.setup.ratio w).natAbs → s.meas.i.settle = 0 → s.synth.clampEndDue = false →
      exec (.decimatorResult .current bits) s = .next { s with
        meas := { s.meas with
          i := { s.meas.i with
            window := w, produced := s.meas.i.produced + 1, settled := s.meas.i.settled + 1
            sumSq := s.meas.i.sumSq + r * r }
          hc := { s.meas.hc with
            limited := s.meas.hc.limited || decide (s.setup.currentLimit * 32767 < r * 400) } }
        synth := { s.synth with
          clamp := if s.setup.currentLimit * 32767 < r * 400 ∧ s.meas.hc.limited = false ∧ outputOn s = true ∧
              s.synth.clamp = none ∧ s.synth.wordDue = false then some s.synth.lastValue else s.synth.clamp
          clampAsked := if s.setup.currentLimit * 32767 < r * 400 ∧ s.meas.hc.limited = false ∧ outputOn s = true ∧
              s.synth.clamp = none ∧ s.synth.wordDue = true then true else s.synth.clampAsked } })) ∧
  (∀ (s : State) (c : Channel) (bits : List Bool), (s.meas.running = false ∨ bits.length ≠ s.setup.ratio) →
    exec (.decimatorResult c bits) s = .next s) ∧
  (∀ ratio j : Nat, combWeight ratio j = waysOf ratio j) ∧
  (∀ (ratio : Nat) (w : List Bool), 0 < ratio →
    (2 * (combResult ratio w * (ratio ^ 3 : Nat)) -
      2 * (32767 * (2 * weightedOnes ratio 0 w - (ratio ^ 3 : Nat)))).natAbs ≤ ratio ^ 3)

/-- V RMS and I RMS of a half-cycle are root mean squares of its settled results, to the nearest, up to their ends. -/
def Obligations.RmsValuesAreRoundedRoots : Prop :=
  ∀ x : ChannelState, 0 < x.settled → x.sumSq ≤ x.settled * 32767 ^ 2 →
    (∃ n, nearestRoot n (x.sumSq * 2828427 ^ 2) (x.settled * (32767 * 1000) ^ 2) ∧ rmsV x = min 2000 n) ∧
    (∃ n, nearestRoot n (x.sumSq * 5656854 ^ 2) (x.settled * (32767 * 1000) ^ 2) ∧ rmsI x = min 4000 n)

/-! ### Invariants of every step -/

/-- The law of R142. -/
def Obligations.SwitchesNeverBothClosed : Prop := keeps SwitchLaw

/-- The laws of R8 and R18. -/
def Obligations.QueueAndCountersKept : Prop := keeps (fun s => QueueLaw s ∧ CounterLaw s)

/-- The law of R160, and the service stack of R169 with each entry above the one beneath it. -/
def Obligations.ReportAndStackKept : Prop := keeps ReportLaw ∧ keeps StackLaw

/-- The laws of R117 and R63: TK_FLT held low in FAULT alone, a cause in FAULT and RECOVER alone, the roster in RUN and
FAULT alone; kept together with the shape of the tables, the queue's law and CONFIG through a reset. -/
def Obligations.FaultLineAndRosterKept : Prop :=
  keeps (fun s => ShapeLaw s ∧ QueueLaw s ∧ ResetLaw s ∧ FaultLineLaw s ∧ CauseLaw s ∧ RosterLaw s)

/-- A pull on TK_SYN while joined and LOCKED alone, LOCKED through ARMED and RUN; TK_GATE driven in ARMED and RUN alone,
released outside the pulse at the gate alone. A frame in hand is one of a joined, unbarred station that was LOCKED at its
begin, with its own number, and the receiver reads nothing exactly while there is one. -/
def Obligations.TrunkLinesKept : Prop :=
  keeps SyncLaw ∧ keeps (fun s => QueueLaw s ∧ GateLaw s) ∧ keeps (fun s => ResetLaw s ∧ TransmitLaw s)

/-- The word is 0 in every state without output; no level exceeds 1500; every cue that names a set names one that holds
entries. -/
def Obligations.LevelsAndSetsKept : Prop := keeps (fun s => WordLaw s ∧ EnvelopeLaw s) ∧ keeps SetsLaw

/-- In every state without output both switches are open and no closing is pending; a stop is under way in FAULT before
its completion and under an END cue alone. -/
def Obligations.SwitchesOpenWithoutOutput : Prop := keeps (fun s => QueueLaw s ∧ StopLaw s ∧ SwitchesOpenLaw s)

/-- The setup and the straps stand still while the station is joined: only a reset changes them there. -/
def Obligations.SetupFrozenWhileJoined : Prop :=
  ∀ (c : Instr) (s t : State), exec c s = .next t → s.state ≠ .config →
    (t.setup = s.setup ∨ t.inReset = true) ∧ (s.inReset = false → t.straps = s.straps)

/-! ### The close of a half-cycle -/

/-- The close of a half-cycle, on the measurement and the alerts alone: held values, the open span's record, the
overload run, the loss indicator; MEAS_LOST is reached in RUN, unless OVERLOAD or OUT_OF_TOLERANCE of this close comes
first (the model's reading, log 22), and passed in the row of its sample; a change of the loss indicator where the close
is judged outside RUN makes MEAS_CHANGE pending, and no other close does. An empty half-cycle leaves held values,
overload run and indicator, and restarts no settling (the model's choice, log 44). The held limiting flag is set by an
unsettled half-cycle too, the first after JOIN among them (the model's choice, log 45). A SAMPLE and an EPOCH whose arc
holds one crossing close one half-cycle with these values, whatever cue is active; the crossings lie on the arc as
placed after the phase steps of the sample. -/
def Obligations.HalfCycleCloses : Prop :=
  (∀ s : State, ∃ m al, closeHalf false s = { s with meas := m, alert := al } ∧ halfClosed s m ∧
    m.lossDue = (s.meas.lossDue || losesAtClose s) ∧ onlyFlags s.alert al ∧
    (∀ sp, s.meas.span = some sp → missesAtClose sp s = true → isFlagged 1 al) ∧
    ((∀ sp, s.meas.span = some sp → missesAtClose sp s = false) →
      al.pending.getLsbD 1 = s.alert.pending.getLsbD 1) ∧
    ((stillRuns s = false ∨ holdMetAtClose s = true) → s.meas.lost ≠ isLost s.meas → isFlagged 7 al) ∧
    (((stillRuns s = true ∧ holdMetAtClose s = false) ∨ s.meas.lost = isLost s.meas) →
      al.pending.getLsbD 7 = s.alert.pending.getLsbD 7) ∧
    (s.meas.span = none → m.span = none) ∧ (∀ sp, s.meas.span = some sp → m.span = some (spanCharged sp s)) ∧
    m.v = channelAfter (isLost s.meas) s.meas.v ∧ m.i = channelAfter (isLost s.meas) s.meas.i ∧
    m.hc.limited = false ∧ m.hc.irregular = false) ∧
  (∀ s : State, ∃ m, closeHalf true s = { s with meas := m } ∧ m.heldV = s.meas.heldV ∧ m.heldI = s.meas.heldI ∧
    m.heldLimiting = s.meas.heldLimiting ∧ m.overloadRun = s.meas.overloadRun ∧ m.overloadDue = s.meas.overloadDue ∧
    m.toleranceDue = s.meas.toleranceDue ∧ m.lost = s.meas.lost ∧ m.lossDue = s.meas.lossDue ∧
    m.v = channelAfter false s.meas.v ∧ m.i = channelAfter false s.meas.i) ∧
  (∀ s : State, (s.meas.lossDue = false → passLoss s = s) ∧
    (s.meas.lossDue = true →
      causePassed .measLost (s.state = .run) { s with meas := { s.meas with lossDue := false } } (passLoss s))) ∧
  (∀ (s : State) (p : PhaseLock), s.joined = true → s.pll.taken = .none → nothingDue s → QueueLaw s → StopLaw s →
    nextSample s.pll = some p →
    ∃ t, exec .sample s = .next t ∧
      halfCyclesOf (closesAt p.sysAngle p.arc ((sampleSteps p s).getD s.synth.stepOffset) s) s t ∧
      (sampleSteps p s = none →
        spanOfSample (closesAt p.sysAngle p.arc s.synth.stepOffset s) s t) ∧
      (losesAtClose s = false → t.state = s.state ∧ t.fault = s.fault)) ∧
  (∀ (line : SynLine) (s : State), s.joined = true → s.pll.taken = .none → nothingDue s → QueueLaw s → StopLaw s →
    ∃ t, exec (.epoch line) s = .next t ∧
      halfCyclesOf (closesAt 0 (s.pll.adv + (3600 - s.pll.acc.whole)) ((epochSteps line s).getD s.synth.stepOffset) s)
        s t ∧
      (epochSteps line s = none → freqWaits s = false →
        spanOfSample (closesAt 0 (s.pll.adv + (3600 - s.pll.acc.whole)) s.synth.stepOffset s) s t))

end
end

