-- ==== Sys2Proof/Laws/LineCode.lean ====
section
/-! SUPPORT. What the line coding does: lengths, the reading back of what is sent, the released line, the readback, the
row that the bits on SDI make. -/

namespace Sys2Proof.Laws

open Sys2Proof Sys2Proof.Machine

/-! ### Bytes as bits -/

@[simp] theorem byteBits_length (b : Byte) : (byteBits b).length = 8 := rfl

@[simp] theorem byteOnLine_length (b : Byte) : (byteOnLine b).length = 10 := rfl

theorem byteOfBits_byteBits : ∀ b : Byte, byteOfBits (byteBits b) = b := by decide

@[simp] theorem bytesOnLine_nil : bytesOnLine [] = [] := rfl

@[simp] theorem bytesOnLine_cons (b : Byte) (bs : List Byte) : bytesOnLine (b :: bs) = byteOnLine b ++ bytesOnLine bs :=
  rfl

/-- R90: ten bits to a byte. -/
theorem bytesOnLine_length (bytes : List Byte) : (bytesOnLine bytes).length = 10 * bytes.length := by
  induction bytes with
  | nil => rfl
  | cons b bs ih => simp [ih]; omega

/-! ### The bits on SDI -/

theorem bytesOfBits_cons (b : Byte) (rest : List Bool) : bytesOfBits (byteBits b ++ rest) = b :: bytesOfBits rest := by
  have h : byteOfBits [b.getLsbD 7, b.getLsbD 6, b.getLsbD 5, b.getLsbD 4, b.getLsbD 3, b.getLsbD 2, b.getLsbD 1,
    b.getLsbD 0] = b := byteOfBits_byteBits b
  simp only [byteBits, List.cons_append, List.nil_append, bytesOfBits, h]

/-- R176: the bytes that have been shifted in are those that were sent, with what the bits behind them make. -/
theorem bytesOfBits_append (bytes : List Byte) (rest : List Bool) :
    bytesOfBits (bytes.flatMap byteBits ++ rest) = bytes ++ bytesOfBits rest := by
  induction bytes with
  | nil => rfl
  | cons b bs ih => rw [List.flatMap_cons, List.append_assoc, bytesOfBits_cons, ih, List.cons_append]

/-- R176, R181: eight bits to a byte, a partial one dropped. -/
theorem bytesOfBits_length (bits : List Bool) : (bytesOfBits bits).length = bits.length / 8 := by
  induction bits using bytesOfBits.induct with
  | case1 b7 b6 b5 b4 b3 b2 b1 b0 rest ih =>
    simp [bytesOfBits, ih]; omega
  | case2 bits h =>
    rw [bytesOfBits]
    · match bits with
      | [] | [_] | [_, _] | [_, _, _] | [_, _, _, _] | [_, _, _, _, _] | [_, _, _, _, _, _] | [_, _, _, _, _, _, _] => simp
      | b7 :: b6 :: b5 :: b4 :: b3 :: b2 :: b1 :: b0 :: rest => exact absurd rfl (h b7 b6 b5 b4 b3 b2 b1 b0 rest)
    · exact h

/-- R178: a command has ended once the bytes its LEN asks for are in; the bytes behind it are ignored. -/
theorem commandBytes_ended (code len : Byte) (rest more : List Byte) (h : len.toNat ≤ 64) (hr : rest.length = len.toNat + 1) :
    commandBytes (code :: len :: (rest ++ more)) = some (code :: len :: rest) := by
  have hn : ¬ 64 < len.toNat := Nat.not_lt.mpr h
  have e : len.toNat + 3 = rest.length + 2 := by omega
  simp [commandBytes, commandLength, hn, e]

/-- R178: a LEN above 64 ends the command. -/
theorem commandBytes_above (code len : Byte) (more : List Byte) (h : 64 < len.toNat) :
    commandBytes (code :: len :: more) = some [code, len] := by
  simp [commandBytes, commandLength, h]

/-- R181: before the command's end the span is a command cut of as many edges as bits. -/
theorem readSpan_cut (bits : List Bool) (h : commandBytes (bytesOfBits bits) = none) :
    readSpan bits = .commandCut bits.length := by
  simp [readSpan, h]

theorem readSpan_ended (bits : List Bool) (bytes : List Byte) (h : commandBytes (bytesOfBits bits) = some bytes) :
    readSpan bits = (readCommand bytes).getD (.commandCut bits.length) := by
  simp [readSpan, h]

/-! ### Reading back -/

/-- R95: a byte as sent is read, and the bits behind it are left. -/
theorem readByte_byteOnLine (b : Byte) (rest : List Bool) : readByte (byteOnLine b ++ rest) = some (b, rest) := by
  have h : byteOfBits [b.getLsbD 7, b.getLsbD 6, b.getLsbD 5, b.getLsbD 4, b.getLsbD 3, b.getLsbD 2, b.getLsbD 1,
    b.getLsbD 0] = b := byteOfBits_byteBits b
  simp only [byteOnLine, byteBits, List.cons_append, List.nil_append, readByte, h]

/-- R90, R95: bytes sent back to back are read as they were sent. -/
theorem readBytes_bytesOnLine (bytes : List Byte) (rest : List Bool) :
    readBytes bytes.length (bytesOnLine bytes ++ rest) = some bytes := by
  induction bytes with
  | nil => rfl
  | cons b bs ih => simp [readBytes, readByte_byteOnLine, ih]

/-- R95: a start bit read high ends the reading. -/
theorem readBytes_noStart (n : Nat) (bits : List Bool) : readBytes (n + 1) (true :: bits) = none := rfl

/-! ### The transmitter's line -/

/-- R90: a station that sends no frame leaves the line released. -/
theorem datLevel_idle (p : PeerLink) (n : Nat) (h : p.tx = none) : datLevel p n = true := by simp [datLevel, h]

theorem datLevel_sending (p : PeerLink) (f : PeerFrame) (n : Nat) (h : p.tx = some f) :
    datLevel p n = f.lineBits.getD n true := by simp [datLevel, h]

/-- R90: behind its last bit the line is released. -/
theorem datLevel_behind (p : PeerLink) (f : PeerFrame) (n : Nat) (h : p.tx = some f) (hn : f.lineBits.length ≤ n) :
    datLevel p n = true := by
  simp [datLevel, h, hn]

/-- R93: a bit differs in the readback where the station sends high and another station low. -/
theorem merged_differs (own others : Bool) : merged own others ≠ own ↔ own = true ∧ others = false := by
  cases own <;> cases others <;> decide

/-- R92: over a line that no other station pulls, every bit is read back as sent. -/
theorem firstMismatch_released (bits : List Bool) (n : Nat) : firstMismatch bits (List.replicate n true) = none := by
  induction bits generalizing n with
  | nil => cases n <;> rfl
  | cons b bs ih => cases n <;> simp [firstMismatch, List.replicate_succ, merged, ih]

end Sys2Proof.Laws
end

