-- ==== Sys2Proof/Laws/Numeric.lean ====
section
/-! SUPPORT. What rounding, square roots, arcs and byte layouts do. -/

namespace Sys2Proof.Laws

open Sys2Proof Sys2Proof.Machine

/-! ### Roots -/

theorem isqrtBits_spec (k n r : Nat) (h : r * r ≤ n) (h' : n < (r + 2 ^ k) * (r + 2 ^ k)) :
    isqrtBits k n r * isqrtBits k n r ≤ n ∧ n < (isqrtBits k n r + 1) * (isqrtBits k n r + 1) := by
  induction k generalizing r with
  | zero => simpa [isqrtBits] using ⟨h, h'⟩
  | succ k ih =>
    unfold isqrtBits
    split
    · rename_i hle
      refine ih _ hle ?_
      have e : r + 2 ^ k + 2 ^ k = r + 2 ^ (k + 1) := by rw [Nat.pow_succ]; omega
      rw [e]; exact h'
    · rename_i hgt
      exact ih _ h (Nat.lt_of_not_le hgt)

/-- `isqrt` is the whole part of the square root, below 2^64. -/
theorem isqrt_spec (n : Nat) (h : n < 2 ^ 64) : isqrt n * isqrt n ≤ n ∧ n < (isqrt n + 1) * (isqrt n + 1) :=
  isqrtBits_spec 32 n 0 (by omega) (by simpa using h)

/-! ### Arcs -/

theorem reached_iff (angle now arc : Nat) :
    reached angle now arc = true ↔ (now + 3600 - angle % 3600) % 3600 < arc := by
  exact decide_eq_true_iff

/-! ### Rounding -/

theorem roundAway_neg (n : Int) (d : Nat) (h : 0 < n) : roundAway (-n) d = -roundAway n d := by
  have h1 : ¬ n < 0 := by omega
  have h2 : -n < 0 := by omega
  unfold roundAway
  rw [if_pos h2, if_neg h1, Int.natAbs_neg]

@[simp] theorem roundAway_zero (d : Nat) (h : 0 < d) : roundAway 0 d = 0 := by
  have : d / (2 * d) = 0 := Nat.div_eq_of_lt (by omega)
  simp [roundAway, this]

/-! ### Bytes -/

@[simp] theorem u8_length (n : Nat) : (u8 n).length = 1 := rfl

@[simp] theorem u16_length (n : Nat) : (u16 n).length = 2 := rfl

@[simp] theorem u32_length (n : Nat) : (u32 n).length = 4 := rfl

theorem be_u8 (n : Nat) (h : n < 256) : be (u8 n) = n := by
  simp [be, u8]; omega

theorem be_u16 (n : Nat) (h : n < 65536) : be (u16 n) = n := by
  simp [be, u16]; omega

theorem be_u32 (n : Nat) (h : n < 4294967296) : be (u32 n) = n := by
  simp [be, u32]; omega

@[simp] theorem Reply_frame_length (r : Reply) : r.frame.length = r.bytes.length + 3 := by
  simp [Reply.frame]

end Sys2Proof.Laws
end

