-- ==== Sys2Proof/Laws/State.lean ====
section
/-! SUPPORT. The record updates of the named operations, field by field: what each leaves as it was. -/

namespace Sys2Proof.Laws

open Sys2Proof Sys2Proof.Machine

variable (s : State)

@[simp] theorem raise_pending (c : AlertCause) : (raise c s).pending = s.pending := rfl
@[simp] theorem raise_state (c : AlertCause) : (raise c s).state = s.state := rfl
@[simp] theorem raise_inReset (c : AlertCause) : (raise c s).inReset = s.inReset := rfl
@[simp] theorem raise_setup (c : AlertCause) : (raise c s).setup = s.setup := rfl
@[simp] theorem raise_straps (c : AlertCause) : (raise c s).straps = s.straps := rfl
@[simp] theorem raise_lines (c : AlertCause) : (raise c s).lines = s.lines := rfl
@[simp] theorem raise_port (c : AlertCause) : (raise c s).port = s.port := rfl
@[simp] theorem raise_cue (c : AlertCause) : (raise c s).cue = s.cue := rfl
@[simp] theorem raise_group (c : AlertCause) : (raise c s).group = s.group := rfl
@[simp] theorem raise_pll (c : AlertCause) : (raise c s).pll = s.pll := rfl
@[simp] theorem raise_peer (c : AlertCause) : (raise c s).peer = s.peer := rfl
@[simp] theorem raise_fault (c : AlertCause) : (raise c s).fault = s.fault := rfl
@[simp] theorem raise_synth (c : AlertCause) : (raise c s).synth = s.synth := rfl
@[simp] theorem raise_sw (c : AlertCause) : (raise c s).sw = s.sw := rfl
@[simp] theorem raise_meas (c : AlertCause) : (raise c s).meas = s.meas := rfl
@[simp] theorem raise_report (c : AlertCause) : (raise c s).report = s.report := rfl

@[simp] theorem setEntry_pending (n : Fin 8) (e : PeerEntry) : (State.setEntry n e s).pending = s.pending := rfl
@[simp] theorem setEntry_state (n : Fin 8) (e : PeerEntry) : (State.setEntry n e s).state = s.state := rfl
@[simp] theorem setEntry_inReset (n : Fin 8) (e : PeerEntry) : (State.setEntry n e s).inReset = s.inReset := rfl
@[simp] theorem setEntry_setup (n : Fin 8) (e : PeerEntry) : (State.setEntry n e s).setup = s.setup := rfl
@[simp] theorem setEntry_straps (n : Fin 8) (e : PeerEntry) : (State.setEntry n e s).straps = s.straps := rfl
@[simp] theorem setEntry_lines (n : Fin 8) (e : PeerEntry) : (State.setEntry n e s).lines = s.lines := rfl
@[simp] theorem setEntry_port (n : Fin 8) (e : PeerEntry) : (State.setEntry n e s).port = s.port := rfl
@[simp] theorem setEntry_cue (n : Fin 8) (e : PeerEntry) : (State.setEntry n e s).cue = s.cue := rfl
@[simp] theorem setEntry_group (n : Fin 8) (e : PeerEntry) : (State.setEntry n e s).group = s.group := rfl
@[simp] theorem setEntry_pll (n : Fin 8) (e : PeerEntry) : (State.setEntry n e s).pll = s.pll := rfl
@[simp] theorem setEntry_fault (n : Fin 8) (e : PeerEntry) : (State.setEntry n e s).fault = s.fault := rfl
@[simp] theorem setEntry_synth (n : Fin 8) (e : PeerEntry) : (State.setEntry n e s).synth = s.synth := rfl
@[simp] theorem setEntry_sw (n : Fin 8) (e : PeerEntry) : (State.setEntry n e s).sw = s.sw := rfl
@[simp] theorem setEntry_meas (n : Fin 8) (e : PeerEntry) : (State.setEntry n e s).meas = s.meas := rfl
@[simp] theorem setEntry_report (n : Fin 8) (e : PeerEntry) : (State.setEntry n e s).report = s.report := rfl
@[simp] theorem setEntry_alert (n : Fin 8) (e : PeerEntry) : (State.setEntry n e s).alert = s.alert := rfl

@[simp] theorem reportSwitch_pending : (reportSwitch s).pending = s.pending := rfl
@[simp] theorem reportSwitch_state : (reportSwitch s).state = s.state := rfl
@[simp] theorem reportSwitch_inReset : (reportSwitch s).inReset = s.inReset := rfl
@[simp] theorem reportSwitch_setup : (reportSwitch s).setup = s.setup := rfl
@[simp] theorem reportSwitch_straps : (reportSwitch s).straps = s.straps := rfl
@[simp] theorem reportSwitch_lines : (reportSwitch s).lines = s.lines := rfl
@[simp] theorem reportSwitch_port : (reportSwitch s).port = s.port := rfl
@[simp] theorem reportSwitch_cue : (reportSwitch s).cue = s.cue := rfl
@[simp] theorem reportSwitch_group : (reportSwitch s).group = s.group := rfl
@[simp] theorem reportSwitch_pll : (reportSwitch s).pll = s.pll := rfl
@[simp] theorem reportSwitch_peer : (reportSwitch s).peer = s.peer := rfl
@[simp] theorem reportSwitch_fault : (reportSwitch s).fault = s.fault := rfl
@[simp] theorem reportSwitch_synth : (reportSwitch s).synth = s.synth := rfl
@[simp] theorem reportSwitch_sw : (reportSwitch s).sw = s.sw := rfl
@[simp] theorem reportSwitch_report : (reportSwitch s).report = s.report := rfl
@[simp] theorem reportSwitch_alert : (reportSwitch s).alert = s.alert := rfl

@[simp] theorem setTransition_pending (t : Option Transition) : (setTransition t s).pending = s.pending := rfl
@[simp] theorem setTransition_state (t : Option Transition) : (setTransition t s).state = s.state := rfl
@[simp] theorem setTransition_inReset (t : Option Transition) : (setTransition t s).inReset = s.inReset := rfl
@[simp] theorem setTransition_setup (t : Option Transition) : (setTransition t s).setup = s.setup := rfl
@[simp] theorem setTransition_straps (t : Option Transition) : (setTransition t s).straps = s.straps := rfl
@[simp] theorem setTransition_lines (t : Option Transition) : (setTransition t s).lines = s.lines := rfl
@[simp] theorem setTransition_port (t : Option Transition) : (setTransition t s).port = s.port := rfl
@[simp] theorem setTransition_cue (t : Option Transition) : (setTransition t s).cue = s.cue := rfl
@[simp] theorem setTransition_group (t : Option Transition) : (setTransition t s).group = s.group := rfl
@[simp] theorem setTransition_pll (t : Option Transition) : (setTransition t s).pll = s.pll := rfl
@[simp] theorem setTransition_peer (t : Option Transition) : (setTransition t s).peer = s.peer := rfl
@[simp] theorem setTransition_fault (t : Option Transition) : (setTransition t s).fault = s.fault := rfl
@[simp] theorem setTransition_synth (t : Option Transition) : (setTransition t s).synth = s.synth := rfl
@[simp] theorem setTransition_meas (t : Option Transition) : (setTransition t s).meas = s.meas := rfl
@[simp] theorem setTransition_report (t : Option Transition) : (setTransition t s).report = s.report := rfl
@[simp] theorem setTransition_alert (t : Option Transition) : (setTransition t s).alert = s.alert := rfl

@[simp] theorem closeSpan_pending : (closeSpan s).pending = s.pending := rfl
@[simp] theorem closeSpan_state : (closeSpan s).state = s.state := rfl
@[simp] theorem closeSpan_inReset : (closeSpan s).inReset = s.inReset := rfl
@[simp] theorem closeSpan_setup : (closeSpan s).setup = s.setup := rfl
@[simp] theorem closeSpan_straps : (closeSpan s).straps = s.straps := rfl
@[simp] theorem closeSpan_lines : (closeSpan s).lines = s.lines := rfl
@[simp] theorem closeSpan_port : (closeSpan s).port = s.port := rfl
@[simp] theorem closeSpan_cue : (closeSpan s).cue = s.cue := rfl
@[simp] theorem closeSpan_group : (closeSpan s).group = s.group := rfl
@[simp] theorem closeSpan_pll : (closeSpan s).pll = s.pll := rfl
@[simp] theorem closeSpan_peer : (closeSpan s).peer = s.peer := rfl
@[simp] theorem closeSpan_fault : (closeSpan s).fault = s.fault := rfl
@[simp] theorem closeSpan_synth : (closeSpan s).synth = s.synth := rfl
@[simp] theorem closeSpan_sw : (closeSpan s).sw = s.sw := rfl
@[simp] theorem closeSpan_report : (closeSpan s).report = s.report := rfl
@[simp] theorem closeSpan_alert : (closeSpan s).alert = s.alert := rfl

@[simp] theorem flickerReturn_pending (a : ActiveCue) : (flickerReturn a s).pending = s.pending := rfl
@[simp] theorem flickerReturn_state (a : ActiveCue) : (flickerReturn a s).state = s.state := rfl
@[simp] theorem flickerReturn_inReset (a : ActiveCue) : (flickerReturn a s).inReset = s.inReset := rfl
@[simp] theorem flickerReturn_setup (a : ActiveCue) : (flickerReturn a s).setup = s.setup := rfl
@[simp] theorem flickerReturn_straps (a : ActiveCue) : (flickerReturn a s).straps = s.straps := rfl
@[simp] theorem flickerReturn_lines (a : ActiveCue) : (flickerReturn a s).lines = s.lines := rfl
@[simp] theorem flickerReturn_port (a : ActiveCue) : (flickerReturn a s).port = s.port := rfl
@[simp] theorem flickerReturn_cue (a : ActiveCue) : (flickerReturn a s).cue = s.cue := rfl
@[simp] theorem flickerReturn_group (a : ActiveCue) : (flickerReturn a s).group = s.group := rfl
@[simp] theorem flickerReturn_pll (a : ActiveCue) : (flickerReturn a s).pll = s.pll := rfl
@[simp] theorem flickerReturn_peer (a : ActiveCue) : (flickerReturn a s).peer = s.peer := rfl
@[simp] theorem flickerReturn_fault (a : ActiveCue) : (flickerReturn a s).fault = s.fault := rfl
@[simp] theorem flickerReturn_sw (a : ActiveCue) : (flickerReturn a s).sw = s.sw := rfl
@[simp] theorem flickerReturn_meas (a : ActiveCue) : (flickerReturn a s).meas = s.meas := rfl
@[simp] theorem flickerReturn_report (a : ActiveCue) : (flickerReturn a s).report = s.report := rfl
@[simp] theorem flickerReturn_alert (a : ActiveCue) : (flickerReturn a s).alert = s.alert := rfl

@[simp] theorem clearTags_pending : (clearTags s).pending = s.pending := rfl
@[simp] theorem clearTags_state : (clearTags s).state = s.state := rfl
@[simp] theorem clearTags_inReset : (clearTags s).inReset = s.inReset := rfl
@[simp] theorem clearTags_setup : (clearTags s).setup = s.setup := rfl
@[simp] theorem clearTags_straps : (clearTags s).straps = s.straps := rfl
@[simp] theorem clearTags_lines : (clearTags s).lines = s.lines := rfl
@[simp] theorem clearTags_port : (clearTags s).port = s.port := rfl
@[simp] theorem clearTags_cue : (clearTags s).cue = s.cue := rfl
@[simp] theorem clearTags_pll : (clearTags s).pll = s.pll := rfl
@[simp] theorem clearTags_peer : (clearTags s).peer = s.peer := rfl
@[simp] theorem clearTags_fault : (clearTags s).fault = s.fault := rfl
@[simp] theorem clearTags_synth : (clearTags s).synth = s.synth := rfl
@[simp] theorem clearTags_sw : (clearTags s).sw = s.sw := rfl
@[simp] theorem clearTags_meas : (clearTags s).meas = s.meas := rfl
@[simp] theorem clearTags_report : (clearTags s).report = s.report := rfl
@[simp] theorem clearTags_alert : (clearTags s).alert = s.alert := rfl

@[simp] theorem stopDriving_pending : (stopDriving s).pending = s.pending := rfl
@[simp] theorem stopDriving_state : (stopDriving s).state = s.state := rfl
@[simp] theorem stopDriving_inReset : (stopDriving s).inReset = s.inReset := rfl
@[simp] theorem stopDriving_setup : (stopDriving s).setup = s.setup := rfl
@[simp] theorem stopDriving_straps : (stopDriving s).straps = s.straps := rfl
@[simp] theorem stopDriving_lines : (stopDriving s).lines = s.lines := rfl
@[simp] theorem stopDriving_port : (stopDriving s).port = s.port := rfl
@[simp] theorem stopDriving_cue : (stopDriving s).cue = s.cue := rfl
@[simp] theorem stopDriving_pll : (stopDriving s).pll = s.pll := rfl
@[simp] theorem stopDriving_peer : (stopDriving s).peer = s.peer := rfl
@[simp] theorem stopDriving_fault : (stopDriving s).fault = s.fault := rfl
@[simp] theorem stopDriving_synth : (stopDriving s).synth = s.synth := rfl
@[simp] theorem stopDriving_sw : (stopDriving s).sw = s.sw := rfl
@[simp] theorem stopDriving_meas : (stopDriving s).meas = s.meas := rfl
@[simp] theorem stopDriving_report : (stopDriving s).report = s.report := rfl
@[simp] theorem stopDriving_alert : (stopDriving s).alert = s.alert := rfl

@[simp] theorem dropGateCauses_pending : (dropGateCauses s).pending = s.pending := rfl
@[simp] theorem dropGateCauses_state : (dropGateCauses s).state = s.state := rfl
@[simp] theorem dropGateCauses_inReset : (dropGateCauses s).inReset = s.inReset := rfl
@[simp] theorem dropGateCauses_setup : (dropGateCauses s).setup = s.setup := rfl
@[simp] theorem dropGateCauses_straps : (dropGateCauses s).straps = s.straps := rfl
@[simp] theorem dropGateCauses_lines : (dropGateCauses s).lines = s.lines := rfl
@[simp] theorem dropGateCauses_port : (dropGateCauses s).port = s.port := rfl
@[simp] theorem dropGateCauses_cue : (dropGateCauses s).cue = s.cue := rfl
@[simp] theorem dropGateCauses_pll : (dropGateCauses s).pll = s.pll := rfl
@[simp] theorem dropGateCauses_peer : (dropGateCauses s).peer = s.peer := rfl
@[simp] theorem dropGateCauses_fault : (dropGateCauses s).fault = s.fault := rfl
@[simp] theorem dropGateCauses_synth : (dropGateCauses s).synth = s.synth := rfl
@[simp] theorem dropGateCauses_sw : (dropGateCauses s).sw = s.sw := rfl
@[simp] theorem dropGateCauses_meas : (dropGateCauses s).meas = s.meas := rfl
@[simp] theorem dropGateCauses_report : (dropGateCauses s).report = s.report := rfl
@[simp] theorem dropGateCauses_alert : (dropGateCauses s).alert = s.alert := rfl

@[simp] theorem leaveGate_pending : (leaveGate s).pending = s.pending := rfl
@[simp] theorem leaveGate_state : (leaveGate s).state = s.state := rfl
@[simp] theorem leaveGate_inReset : (leaveGate s).inReset = s.inReset := rfl
@[simp] theorem leaveGate_setup : (leaveGate s).setup = s.setup := rfl
@[simp] theorem leaveGate_straps : (leaveGate s).straps = s.straps := rfl
@[simp] theorem leaveGate_lines : (leaveGate s).lines = s.lines := rfl
@[simp] theorem leaveGate_port : (leaveGate s).port = s.port := rfl
@[simp] theorem leaveGate_cue : (leaveGate s).cue = s.cue := rfl
@[simp] theorem leaveGate_pll : (leaveGate s).pll = s.pll := rfl
@[simp] theorem leaveGate_peer : (leaveGate s).peer = s.peer := rfl
@[simp] theorem leaveGate_fault : (leaveGate s).fault = s.fault := rfl
@[simp] theorem leaveGate_synth : (leaveGate s).synth = s.synth := rfl
@[simp] theorem leaveGate_sw : (leaveGate s).sw = s.sw := rfl
@[simp] theorem leaveGate_meas : (leaveGate s).meas = s.meas := rfl
@[simp] theorem leaveGate_report : (leaveGate s).report = s.report := rfl
@[simp] theorem leaveGate_alert : (leaveGate s).alert = s.alert := rfl

@[simp] theorem endShares_pending : (endShares s).pending = s.pending := rfl
@[simp] theorem endShares_state : (endShares s).state = s.state := rfl
@[simp] theorem endShares_inReset : (endShares s).inReset = s.inReset := rfl
@[simp] theorem endShares_setup : (endShares s).setup = s.setup := rfl
@[simp] theorem endShares_straps : (endShares s).straps = s.straps := rfl
@[simp] theorem endShares_lines : (endShares s).lines = s.lines := rfl
@[simp] theorem endShares_port : (endShares s).port = s.port := rfl
@[simp] theorem endShares_cue : (endShares s).cue = s.cue := rfl
@[simp] theorem endShares_group : (endShares s).group = s.group := rfl
@[simp] theorem endShares_pll : (endShares s).pll = s.pll := rfl
@[simp] theorem endShares_fault : (endShares s).fault = s.fault := rfl
@[simp] theorem endShares_synth : (endShares s).synth = s.synth := rfl
@[simp] theorem endShares_sw : (endShares s).sw = s.sw := rfl
@[simp] theorem endShares_meas : (endShares s).meas = s.meas := rfl
@[simp] theorem endShares_report : (endShares s).report = s.report := rfl
@[simp] theorem endShares_alert : (endShares s).alert = s.alert := rfl

@[simp] theorem clearRoster_pending : (clearRoster s).pending = s.pending := rfl
@[simp] theorem clearRoster_state : (clearRoster s).state = s.state := rfl
@[simp] theorem clearRoster_inReset : (clearRoster s).inReset = s.inReset := rfl
@[simp] theorem clearRoster_setup : (clearRoster s).setup = s.setup := rfl
@[simp] theorem clearRoster_straps : (clearRoster s).straps = s.straps := rfl
@[simp] theorem clearRoster_lines : (clearRoster s).lines = s.lines := rfl
@[simp] theorem clearRoster_port : (clearRoster s).port = s.port := rfl
@[simp] theorem clearRoster_cue : (clearRoster s).cue = s.cue := rfl
@[simp] theorem clearRoster_group : (clearRoster s).group = s.group := rfl
@[simp] theorem clearRoster_pll : (clearRoster s).pll = s.pll := rfl
@[simp] theorem clearRoster_fault : (clearRoster s).fault = s.fault := rfl
@[simp] theorem clearRoster_synth : (clearRoster s).synth = s.synth := rfl
@[simp] theorem clearRoster_sw : (clearRoster s).sw = s.sw := rfl
@[simp] theorem clearRoster_meas : (clearRoster s).meas = s.meas := rfl
@[simp] theorem clearRoster_report : (clearRoster s).report = s.report := rfl
@[simp] theorem clearRoster_alert : (clearRoster s).alert = s.alert := rfl

@[simp] theorem recordEpisode_pending (c : FaultCause) : (recordEpisode c s).pending = s.pending := rfl
@[simp] theorem recordEpisode_inReset (c : FaultCause) : (recordEpisode c s).inReset = s.inReset := rfl
@[simp] theorem recordEpisode_setup (c : FaultCause) : (recordEpisode c s).setup = s.setup := rfl
@[simp] theorem recordEpisode_straps (c : FaultCause) : (recordEpisode c s).straps = s.straps := rfl
@[simp] theorem recordEpisode_lines (c : FaultCause) : (recordEpisode c s).lines = s.lines := rfl
@[simp] theorem recordEpisode_port (c : FaultCause) : (recordEpisode c s).port = s.port := rfl
@[simp] theorem recordEpisode_cue (c : FaultCause) : (recordEpisode c s).cue = s.cue := rfl
@[simp] theorem recordEpisode_group (c : FaultCause) : (recordEpisode c s).group = s.group := rfl
@[simp] theorem recordEpisode_pll (c : FaultCause) : (recordEpisode c s).pll = s.pll := rfl
@[simp] theorem recordEpisode_peer (c : FaultCause) : (recordEpisode c s).peer = s.peer := rfl
@[simp] theorem recordEpisode_synth (c : FaultCause) : (recordEpisode c s).synth = s.synth := rfl
@[simp] theorem recordEpisode_sw (c : FaultCause) : (recordEpisode c s).sw = s.sw := rfl
@[simp] theorem recordEpisode_meas (c : FaultCause) : (recordEpisode c s).meas = s.meas := rfl
@[simp] theorem recordEpisode_report (c : FaultCause) : (recordEpisode c s).report = s.report := rfl
@[simp] theorem recordEpisode_alert (c : FaultCause) : (recordEpisode c s).alert = s.alert := rfl

@[simp] theorem countSecondary_pending : (countSecondary s).pending = s.pending := rfl
@[simp] theorem countSecondary_state : (countSecondary s).state = s.state := rfl
@[simp] theorem countSecondary_inReset : (countSecondary s).inReset = s.inReset := rfl
@[simp] theorem countSecondary_setup : (countSecondary s).setup = s.setup := rfl
@[simp] theorem countSecondary_straps : (countSecondary s).straps = s.straps := rfl
@[simp] theorem countSecondary_lines : (countSecondary s).lines = s.lines := rfl
@[simp] theorem countSecondary_port : (countSecondary s).port = s.port := rfl
@[simp] theorem countSecondary_cue : (countSecondary s).cue = s.cue := rfl
@[simp] theorem countSecondary_group : (countSecondary s).group = s.group := rfl
@[simp] theorem countSecondary_pll : (countSecondary s).pll = s.pll := rfl
@[simp] theorem countSecondary_peer : (countSecondary s).peer = s.peer := rfl
@[simp] theorem countSecondary_synth : (countSecondary s).synth = s.synth := rfl
@[simp] theorem countSecondary_sw : (countSecondary s).sw = s.sw := rfl
@[simp] theorem countSecondary_meas : (countSecondary s).meas = s.meas := rfl
@[simp] theorem countSecondary_report : (countSecondary s).report = s.report := rfl
@[simp] theorem countSecondary_alert : (countSecondary s).alert = s.alert := rfl

@[simp] theorem answer_pending (r : Result) (b : List Byte) : (answer r b s).pending = s.pending := rfl
@[simp] theorem answer_state (r : Result) (b : List Byte) : (answer r b s).state = s.state := rfl
@[simp] theorem answer_inReset (r : Result) (b : List Byte) : (answer r b s).inReset = s.inReset := rfl
@[simp] theorem answer_setup (r : Result) (b : List Byte) : (answer r b s).setup = s.setup := rfl
@[simp] theorem answer_straps (r : Result) (b : List Byte) : (answer r b s).straps = s.straps := rfl
@[simp] theorem answer_lines (r : Result) (b : List Byte) : (answer r b s).lines = s.lines := rfl
@[simp] theorem answer_cue (r : Result) (b : List Byte) : (answer r b s).cue = s.cue := rfl
@[simp] theorem answer_group (r : Result) (b : List Byte) : (answer r b s).group = s.group := rfl
@[simp] theorem answer_pll (r : Result) (b : List Byte) : (answer r b s).pll = s.pll := rfl
@[simp] theorem answer_peer (r : Result) (b : List Byte) : (answer r b s).peer = s.peer := rfl
@[simp] theorem answer_fault (r : Result) (b : List Byte) : (answer r b s).fault = s.fault := rfl
@[simp] theorem answer_synth (r : Result) (b : List Byte) : (answer r b s).synth = s.synth := rfl
@[simp] theorem answer_sw (r : Result) (b : List Byte) : (answer r b s).sw = s.sw := rfl
@[simp] theorem answer_meas (r : Result) (b : List Byte) : (answer r b s).meas = s.meas := rfl
@[simp] theorem answer_report (r : Result) (b : List Byte) : (answer r b s).report = s.report := rfl
@[simp] theorem answer_alert (r : Result) (b : List Byte) : (answer r b s).alert = s.alert := rfl

@[simp] theorem endCommand_pending : (endCommand s).pending = s.pending := rfl
@[simp] theorem endCommand_state : (endCommand s).state = s.state := rfl
@[simp] theorem endCommand_inReset : (endCommand s).inReset = s.inReset := rfl
@[simp] theorem endCommand_setup : (endCommand s).setup = s.setup := rfl
@[simp] theorem endCommand_straps : (endCommand s).straps = s.straps := rfl
@[simp] theorem endCommand_lines : (endCommand s).lines = s.lines := rfl
@[simp] theorem endCommand_cue : (endCommand s).cue = s.cue := rfl
@[simp] theorem endCommand_group : (endCommand s).group = s.group := rfl
@[simp] theorem endCommand_pll : (endCommand s).pll = s.pll := rfl
@[simp] theorem endCommand_peer : (endCommand s).peer = s.peer := rfl
@[simp] theorem endCommand_fault : (endCommand s).fault = s.fault := rfl
@[simp] theorem endCommand_synth : (endCommand s).synth = s.synth := rfl
@[simp] theorem endCommand_sw : (endCommand s).sw = s.sw := rfl
@[simp] theorem endCommand_meas : (endCommand s).meas = s.meas := rfl
@[simp] theorem endCommand_report : (endCommand s).report = s.report := rfl
@[simp] theorem endCommand_alert : (endCommand s).alert = s.alert := rfl

@[simp] theorem dropTaken_pending : (dropTaken s).pending = s.pending := rfl
@[simp] theorem dropTaken_state : (dropTaken s).state = s.state := rfl
@[simp] theorem dropTaken_inReset : (dropTaken s).inReset = s.inReset := rfl
@[simp] theorem dropTaken_setup : (dropTaken s).setup = s.setup := rfl
@[simp] theorem dropTaken_straps : (dropTaken s).straps = s.straps := rfl
@[simp] theorem dropTaken_lines : (dropTaken s).lines = s.lines := rfl
@[simp] theorem dropTaken_port : (dropTaken s).port = s.port := rfl
@[simp] theorem dropTaken_cue : (dropTaken s).cue = s.cue := rfl
@[simp] theorem dropTaken_group : (dropTaken s).group = s.group := rfl
@[simp] theorem dropTaken_peer : (dropTaken s).peer = s.peer := rfl
@[simp] theorem dropTaken_fault : (dropTaken s).fault = s.fault := rfl
@[simp] theorem dropTaken_synth : (dropTaken s).synth = s.synth := rfl
@[simp] theorem dropTaken_sw : (dropTaken s).sw = s.sw := rfl
@[simp] theorem dropTaken_meas : (dropTaken s).meas = s.meas := rfl
@[simp] theorem dropTaken_report : (dropTaken s).report = s.report := rfl
@[simp] theorem dropTaken_alert : (dropTaken s).alert = s.alert := rfl

@[simp] theorem closeFrame_pending : (closeFrame s).pending = s.pending := rfl
@[simp] theorem closeFrame_state : (closeFrame s).state = s.state := rfl
@[simp] theorem closeFrame_inReset : (closeFrame s).inReset = s.inReset := rfl
@[simp] theorem closeFrame_setup : (closeFrame s).setup = s.setup := rfl
@[simp] theorem closeFrame_straps : (closeFrame s).straps = s.straps := rfl
@[simp] theorem closeFrame_lines : (closeFrame s).lines = s.lines := rfl
@[simp] theorem closeFrame_cue : (closeFrame s).cue = s.cue := rfl
@[simp] theorem closeFrame_group : (closeFrame s).group = s.group := rfl
@[simp] theorem closeFrame_pll : (closeFrame s).pll = s.pll := rfl
@[simp] theorem closeFrame_peer : (closeFrame s).peer = s.peer := rfl
@[simp] theorem closeFrame_fault : (closeFrame s).fault = s.fault := rfl
@[simp] theorem closeFrame_synth : (closeFrame s).synth = s.synth := rfl
@[simp] theorem closeFrame_sw : (closeFrame s).sw = s.sw := rfl
@[simp] theorem closeFrame_meas : (closeFrame s).meas = s.meas := rfl
@[simp] theorem closeFrame_report : (closeFrame s).report = s.report := rfl
@[simp] theorem closeFrame_alert : (closeFrame s).alert = s.alert := rfl

@[simp] theorem beginCommand_pending : (beginCommand s).pending = s.pending := rfl
@[simp] theorem beginCommand_state : (beginCommand s).state = s.state := rfl
@[simp] theorem beginCommand_inReset : (beginCommand s).inReset = s.inReset := rfl
@[simp] theorem beginCommand_setup : (beginCommand s).setup = s.setup := rfl
@[simp] theorem beginCommand_straps : (beginCommand s).straps = s.straps := rfl
@[simp] theorem beginCommand_lines : (beginCommand s).lines = s.lines := rfl
@[simp] theorem beginCommand_cue : (beginCommand s).cue = s.cue := rfl
@[simp] theorem beginCommand_group : (beginCommand s).group = s.group := rfl
@[simp] theorem beginCommand_pll : (beginCommand s).pll = s.pll := rfl
@[simp] theorem beginCommand_peer : (beginCommand s).peer = s.peer := rfl
@[simp] theorem beginCommand_fault : (beginCommand s).fault = s.fault := rfl
@[simp] theorem beginCommand_synth : (beginCommand s).synth = s.synth := rfl
@[simp] theorem beginCommand_sw : (beginCommand s).sw = s.sw := rfl
@[simp] theorem beginCommand_meas : (beginCommand s).meas = s.meas := rfl
@[simp] theorem beginCommand_report : (beginCommand s).report = s.report := rfl
@[simp] theorem beginCommand_alert : (beginCommand s).alert = s.alert := rfl

@[simp] theorem mapActive_pending (f : ActiveCue → ActiveCue) : (mapActive f s).pending = s.pending := rfl
@[simp] theorem mapActive_state (f : ActiveCue → ActiveCue) : (mapActive f s).state = s.state := rfl
@[simp] theorem mapActive_inReset (f : ActiveCue → ActiveCue) : (mapActive f s).inReset = s.inReset := rfl
@[simp] theorem mapActive_setup (f : ActiveCue → ActiveCue) : (mapActive f s).setup = s.setup := rfl
@[simp] theorem mapActive_straps (f : ActiveCue → ActiveCue) : (mapActive f s).straps = s.straps := rfl
@[simp] theorem mapActive_lines (f : ActiveCue → ActiveCue) : (mapActive f s).lines = s.lines := rfl
@[simp] theorem mapActive_port (f : ActiveCue → ActiveCue) : (mapActive f s).port = s.port := rfl
@[simp] theorem mapActive_group (f : ActiveCue → ActiveCue) : (mapActive f s).group = s.group := rfl
@[simp] theorem mapActive_pll (f : ActiveCue → ActiveCue) : (mapActive f s).pll = s.pll := rfl
@[simp] theorem mapActive_peer (f : ActiveCue → ActiveCue) : (mapActive f s).peer = s.peer := rfl
@[simp] theorem mapActive_fault (f : ActiveCue → ActiveCue) : (mapActive f s).fault = s.fault := rfl
@[simp] theorem mapActive_synth (f : ActiveCue → ActiveCue) : (mapActive f s).synth = s.synth := rfl
@[simp] theorem mapActive_sw (f : ActiveCue → ActiveCue) : (mapActive f s).sw = s.sw := rfl
@[simp] theorem mapActive_meas (f : ActiveCue → ActiveCue) : (mapActive f s).meas = s.meas := rfl
@[simp] theorem mapActive_report (f : ActiveCue → ActiveCue) : (mapActive f s).report = s.report := rfl
@[simp] theorem mapActive_alert (f : ActiveCue → ActiveCue) : (mapActive f s).alert = s.alert := rfl

@[simp] theorem appendCue_pending (c : Cue) : (appendCue c s).pending = s.pending := rfl
@[simp] theorem appendCue_state (c : Cue) : (appendCue c s).state = s.state := rfl
@[simp] theorem appendCue_inReset (c : Cue) : (appendCue c s).inReset = s.inReset := rfl
@[simp] theorem appendCue_setup (c : Cue) : (appendCue c s).setup = s.setup := rfl
@[simp] theorem appendCue_straps (c : Cue) : (appendCue c s).straps = s.straps := rfl
@[simp] theorem appendCue_lines (c : Cue) : (appendCue c s).lines = s.lines := rfl
@[simp] theorem appendCue_port (c : Cue) : (appendCue c s).port = s.port := rfl
@[simp] theorem appendCue_group (c : Cue) : (appendCue c s).group = s.group := rfl
@[simp] theorem appendCue_pll (c : Cue) : (appendCue c s).pll = s.pll := rfl
@[simp] theorem appendCue_peer (c : Cue) : (appendCue c s).peer = s.peer := rfl
@[simp] theorem appendCue_fault (c : Cue) : (appendCue c s).fault = s.fault := rfl
@[simp] theorem appendCue_synth (c : Cue) : (appendCue c s).synth = s.synth := rfl
@[simp] theorem appendCue_sw (c : Cue) : (appendCue c s).sw = s.sw := rfl
@[simp] theorem appendCue_meas (c : Cue) : (appendCue c s).meas = s.meas := rfl
@[simp] theorem appendCue_report (c : Cue) : (appendCue c s).report = s.report := rfl
@[simp] theorem appendCue_alert (c : Cue) : (appendCue c s).alert = s.alert := rfl

@[simp] theorem setLevel_pending (c : Cue) : (setLevel c s).pending = s.pending := rfl
@[simp] theorem setLevel_state (c : Cue) : (setLevel c s).state = s.state := rfl
@[simp] theorem setLevel_inReset (c : Cue) : (setLevel c s).inReset = s.inReset := rfl
@[simp] theorem setLevel_setup (c : Cue) : (setLevel c s).setup = s.setup := rfl
@[simp] theorem setLevel_straps (c : Cue) : (setLevel c s).straps = s.straps := rfl
@[simp] theorem setLevel_lines (c : Cue) : (setLevel c s).lines = s.lines := rfl
@[simp] theorem setLevel_port (c : Cue) : (setLevel c s).port = s.port := rfl
@[simp] theorem setLevel_cue (c : Cue) : (setLevel c s).cue = s.cue := rfl
@[simp] theorem setLevel_group (c : Cue) : (setLevel c s).group = s.group := rfl
@[simp] theorem setLevel_pll (c : Cue) : (setLevel c s).pll = s.pll := rfl
@[simp] theorem setLevel_peer (c : Cue) : (setLevel c s).peer = s.peer := rfl
@[simp] theorem setLevel_fault (c : Cue) : (setLevel c s).fault = s.fault := rfl
@[simp] theorem setLevel_sw (c : Cue) : (setLevel c s).sw = s.sw := rfl
@[simp] theorem setLevel_meas (c : Cue) : (setLevel c s).meas = s.meas := rfl
@[simp] theorem setLevel_report (c : Cue) : (setLevel c s).report = s.report := rfl
@[simp] theorem setLevel_alert (c : Cue) : (setLevel c s).alert = s.alert := rfl

@[simp] theorem openSpan_pending (c : Cue) : (openSpan c s).pending = s.pending := rfl
@[simp] theorem openSpan_state (c : Cue) : (openSpan c s).state = s.state := rfl
@[simp] theorem openSpan_inReset (c : Cue) : (openSpan c s).inReset = s.inReset := rfl
@[simp] theorem openSpan_setup (c : Cue) : (openSpan c s).setup = s.setup := rfl
@[simp] theorem openSpan_straps (c : Cue) : (openSpan c s).straps = s.straps := rfl
@[simp] theorem openSpan_lines (c : Cue) : (openSpan c s).lines = s.lines := rfl
@[simp] theorem openSpan_port (c : Cue) : (openSpan c s).port = s.port := rfl
@[simp] theorem openSpan_cue (c : Cue) : (openSpan c s).cue = s.cue := rfl
@[simp] theorem openSpan_group (c : Cue) : (openSpan c s).group = s.group := rfl
@[simp] theorem openSpan_pll (c : Cue) : (openSpan c s).pll = s.pll := rfl
@[simp] theorem openSpan_peer (c : Cue) : (openSpan c s).peer = s.peer := rfl
@[simp] theorem openSpan_fault (c : Cue) : (openSpan c s).fault = s.fault := rfl
@[simp] theorem openSpan_sw (c : Cue) : (openSpan c s).sw = s.sw := rfl
@[simp] theorem openSpan_report (c : Cue) : (openSpan c s).report = s.report := rfl
@[simp] theorem openSpan_alert (c : Cue) : (openSpan c s).alert = s.alert := rfl

@[simp] theorem markFreq_pending : (markFreq s).pending = s.pending := rfl
@[simp] theorem markFreq_state : (markFreq s).state = s.state := rfl
@[simp] theorem markFreq_inReset : (markFreq s).inReset = s.inReset := rfl
@[simp] theorem markFreq_setup : (markFreq s).setup = s.setup := rfl
@[simp] theorem markFreq_straps : (markFreq s).straps = s.straps := rfl
@[simp] theorem markFreq_lines : (markFreq s).lines = s.lines := rfl
@[simp] theorem markFreq_port : (markFreq s).port = s.port := rfl
@[simp] theorem markFreq_cue : (markFreq s).cue = s.cue := rfl
@[simp] theorem markFreq_group : (markFreq s).group = s.group := rfl
@[simp] theorem markFreq_pll : (markFreq s).pll = s.pll := rfl
@[simp] theorem markFreq_peer : (markFreq s).peer = s.peer := rfl
@[simp] theorem markFreq_fault : (markFreq s).fault = s.fault := rfl
@[simp] theorem markFreq_synth : (markFreq s).synth = s.synth := rfl
@[simp] theorem markFreq_sw : (markFreq s).sw = s.sw := rfl
@[simp] theorem markFreq_report : (markFreq s).report = s.report := rfl
@[simp] theorem markFreq_alert : (markFreq s).alert = s.alert := rfl

@[simp] theorem enterRunning_pending : (enterRunning s).pending = s.pending := rfl
@[simp] theorem enterRunning_state : (enterRunning s).state = s.state := rfl
@[simp] theorem enterRunning_inReset : (enterRunning s).inReset = s.inReset := rfl
@[simp] theorem enterRunning_setup : (enterRunning s).setup = s.setup := rfl
@[simp] theorem enterRunning_straps : (enterRunning s).straps = s.straps := rfl
@[simp] theorem enterRunning_lines : (enterRunning s).lines = s.lines := rfl
@[simp] theorem enterRunning_port : (enterRunning s).port = s.port := rfl
@[simp] theorem enterRunning_group : (enterRunning s).group = s.group := rfl
@[simp] theorem enterRunning_pll : (enterRunning s).pll = s.pll := rfl
@[simp] theorem enterRunning_peer : (enterRunning s).peer = s.peer := rfl
@[simp] theorem enterRunning_fault : (enterRunning s).fault = s.fault := rfl
@[simp] theorem enterRunning_synth : (enterRunning s).synth = s.synth := rfl
@[simp] theorem enterRunning_sw : (enterRunning s).sw = s.sw := rfl
@[simp] theorem enterRunning_meas : (enterRunning s).meas = s.meas := rfl
@[simp] theorem enterRunning_report : (enterRunning s).report = s.report := rfl
@[simp] theorem enterRunning_alert : (enterRunning s).alert = s.alert := rfl

@[simp] theorem armFlicker_pending : (armFlicker s).pending = s.pending := rfl
@[simp] theorem armFlicker_state : (armFlicker s).state = s.state := rfl
@[simp] theorem armFlicker_inReset : (armFlicker s).inReset = s.inReset := rfl
@[simp] theorem armFlicker_setup : (armFlicker s).setup = s.setup := rfl
@[simp] theorem armFlicker_straps : (armFlicker s).straps = s.straps := rfl
@[simp] theorem armFlicker_lines : (armFlicker s).lines = s.lines := rfl
@[simp] theorem armFlicker_port : (armFlicker s).port = s.port := rfl
@[simp] theorem armFlicker_cue : (armFlicker s).cue = s.cue := rfl
@[simp] theorem armFlicker_group : (armFlicker s).group = s.group := rfl
@[simp] theorem armFlicker_pll : (armFlicker s).pll = s.pll := rfl
@[simp] theorem armFlicker_peer : (armFlicker s).peer = s.peer := rfl
@[simp] theorem armFlicker_fault : (armFlicker s).fault = s.fault := rfl
@[simp] theorem armFlicker_sw : (armFlicker s).sw = s.sw := rfl
@[simp] theorem armFlicker_meas : (armFlicker s).meas = s.meas := rfl
@[simp] theorem armFlicker_report : (armFlicker s).report = s.report := rfl
@[simp] theorem armFlicker_alert : (armFlicker s).alert = s.alert := rfl

@[simp] theorem setLost_pending (b : Bool) : (setLost b s).pending = s.pending := rfl
@[simp] theorem setLost_state (b : Bool) : (setLost b s).state = s.state := rfl
@[simp] theorem setLost_inReset (b : Bool) : (setLost b s).inReset = s.inReset := rfl
@[simp] theorem setLost_setup (b : Bool) : (setLost b s).setup = s.setup := rfl
@[simp] theorem setLost_straps (b : Bool) : (setLost b s).straps = s.straps := rfl
@[simp] theorem setLost_lines (b : Bool) : (setLost b s).lines = s.lines := rfl
@[simp] theorem setLost_port (b : Bool) : (setLost b s).port = s.port := rfl
@[simp] theorem setLost_cue (b : Bool) : (setLost b s).cue = s.cue := rfl
@[simp] theorem setLost_group (b : Bool) : (setLost b s).group = s.group := rfl
@[simp] theorem setLost_pll (b : Bool) : (setLost b s).pll = s.pll := rfl
@[simp] theorem setLost_peer (b : Bool) : (setLost b s).peer = s.peer := rfl
@[simp] theorem setLost_fault (b : Bool) : (setLost b s).fault = s.fault := rfl
@[simp] theorem setLost_synth (b : Bool) : (setLost b s).synth = s.synth := rfl
@[simp] theorem setLost_sw (b : Bool) : (setLost b s).sw = s.sw := rfl
@[simp] theorem setLost_report (b : Bool) : (setLost b s).report = s.report := rfl
@[simp] theorem setLost_alert (b : Bool) : (setLost b s).alert = s.alert := rfl

@[simp] theorem beginHalf_pending (lost : Bool) : (beginHalf lost s).pending = s.pending := rfl
@[simp] theorem beginHalf_state (lost : Bool) : (beginHalf lost s).state = s.state := rfl
@[simp] theorem beginHalf_inReset (lost : Bool) : (beginHalf lost s).inReset = s.inReset := rfl
@[simp] theorem beginHalf_setup (lost : Bool) : (beginHalf lost s).setup = s.setup := rfl
@[simp] theorem beginHalf_straps (lost : Bool) : (beginHalf lost s).straps = s.straps := rfl
@[simp] theorem beginHalf_lines (lost : Bool) : (beginHalf lost s).lines = s.lines := rfl
@[simp] theorem beginHalf_port (lost : Bool) : (beginHalf lost s).port = s.port := rfl
@[simp] theorem beginHalf_cue (lost : Bool) : (beginHalf lost s).cue = s.cue := rfl
@[simp] theorem beginHalf_group (lost : Bool) : (beginHalf lost s).group = s.group := rfl
@[simp] theorem beginHalf_pll (lost : Bool) : (beginHalf lost s).pll = s.pll := rfl
@[simp] theorem beginHalf_peer (lost : Bool) : (beginHalf lost s).peer = s.peer := rfl
@[simp] theorem beginHalf_fault (lost : Bool) : (beginHalf lost s).fault = s.fault := rfl
@[simp] theorem beginHalf_synth (lost : Bool) : (beginHalf lost s).synth = s.synth := rfl
@[simp] theorem beginHalf_sw (lost : Bool) : (beginHalf lost s).sw = s.sw := rfl
@[simp] theorem beginHalf_report (lost : Bool) : (beginHalf lost s).report = s.report := rfl
@[simp] theorem beginHalf_alert (lost : Bool) : (beginHalf lost s).alert = s.alert := rfl

@[simp] theorem stopOutput_pending : (stopOutput s).pending = s.pending := rfl
@[simp] theorem stopOutput_state : (stopOutput s).state = s.state := rfl
@[simp] theorem stopOutput_inReset : (stopOutput s).inReset = s.inReset := rfl
@[simp] theorem stopOutput_setup : (stopOutput s).setup = s.setup := rfl
@[simp] theorem stopOutput_straps : (stopOutput s).straps = s.straps := rfl
@[simp] theorem stopOutput_lines : (stopOutput s).lines = s.lines := rfl
@[simp] theorem stopOutput_port : (stopOutput s).port = s.port := rfl
@[simp] theorem stopOutput_cue : (stopOutput s).cue = s.cue := rfl
@[simp] theorem stopOutput_group : (stopOutput s).group = s.group := rfl
@[simp] theorem stopOutput_pll : (stopOutput s).pll = s.pll := rfl
@[simp] theorem stopOutput_peer : (stopOutput s).peer = s.peer := rfl
@[simp] theorem stopOutput_fault : (stopOutput s).fault = s.fault := rfl
@[simp] theorem stopOutput_sw : (stopOutput s).sw = s.sw := rfl
@[simp] theorem stopOutput_meas : (stopOutput s).meas = s.meas := rfl
@[simp] theorem stopOutput_report : (stopOutput s).report = s.report := rfl
@[simp] theorem stopOutput_alert : (stopOutput s).alert = s.alert := rfl

@[simp] theorem makeChange_pending (a : ActiveCue) (f : FlickerLevels) : (makeChange a f s).pending = s.pending := rfl
@[simp] theorem makeChange_state (a : ActiveCue) (f : FlickerLevels) : (makeChange a f s).state = s.state := rfl
@[simp] theorem makeChange_inReset (a : ActiveCue) (f : FlickerLevels) : (makeChange a f s).inReset = s.inReset := rfl
@[simp] theorem makeChange_setup (a : ActiveCue) (f : FlickerLevels) : (makeChange a f s).setup = s.setup := rfl
@[simp] theorem makeChange_straps (a : ActiveCue) (f : FlickerLevels) : (makeChange a f s).straps = s.straps := rfl
@[simp] theorem makeChange_lines (a : ActiveCue) (f : FlickerLevels) : (makeChange a f s).lines = s.lines := rfl
@[simp] theorem makeChange_port (a : ActiveCue) (f : FlickerLevels) : (makeChange a f s).port = s.port := rfl
@[simp] theorem makeChange_group (a : ActiveCue) (f : FlickerLevels) : (makeChange a f s).group = s.group := rfl
@[simp] theorem makeChange_pll (a : ActiveCue) (f : FlickerLevels) : (makeChange a f s).pll = s.pll := rfl
@[simp] theorem makeChange_peer (a : ActiveCue) (f : FlickerLevels) : (makeChange a f s).peer = s.peer := rfl
@[simp] theorem makeChange_fault (a : ActiveCue) (f : FlickerLevels) : (makeChange a f s).fault = s.fault := rfl
@[simp] theorem makeChange_sw (a : ActiveCue) (f : FlickerLevels) : (makeChange a f s).sw = s.sw := rfl
@[simp] theorem makeChange_meas (a : ActiveCue) (f : FlickerLevels) : (makeChange a f s).meas = s.meas := rfl
@[simp] theorem makeChange_report (a : ActiveCue) (f : FlickerLevels) : (makeChange a f s).report = s.report := rfl
@[simp] theorem makeChange_alert (a : ActiveCue) (f : FlickerLevels) : (makeChange a f s).alert = s.alert := rfl

@[simp] theorem storeSet_pending (n : Nat) (es : List HarmonicEntry) : (storeSet n es s).pending = s.pending := rfl
@[simp] theorem storeSet_state (n : Nat) (es : List HarmonicEntry) : (storeSet n es s).state = s.state := rfl
@[simp] theorem storeSet_inReset (n : Nat) (es : List HarmonicEntry) : (storeSet n es s).inReset = s.inReset := rfl
@[simp] theorem storeSet_setup (n : Nat) (es : List HarmonicEntry) : (storeSet n es s).setup = s.setup := rfl
@[simp] theorem storeSet_straps (n : Nat) (es : List HarmonicEntry) : (storeSet n es s).straps = s.straps := rfl
@[simp] theorem storeSet_lines (n : Nat) (es : List HarmonicEntry) : (storeSet n es s).lines = s.lines := rfl
@[simp] theorem storeSet_port (n : Nat) (es : List HarmonicEntry) : (storeSet n es s).port = s.port := rfl
@[simp] theorem storeSet_cue (n : Nat) (es : List HarmonicEntry) : (storeSet n es s).cue = s.cue := rfl
@[simp] theorem storeSet_group (n : Nat) (es : List HarmonicEntry) : (storeSet n es s).group = s.group := rfl
@[simp] theorem storeSet_pll (n : Nat) (es : List HarmonicEntry) : (storeSet n es s).pll = s.pll := rfl
@[simp] theorem storeSet_peer (n : Nat) (es : List HarmonicEntry) : (storeSet n es s).peer = s.peer := rfl
@[simp] theorem storeSet_fault (n : Nat) (es : List HarmonicEntry) : (storeSet n es s).fault = s.fault := rfl
@[simp] theorem storeSet_sw (n : Nat) (es : List HarmonicEntry) : (storeSet n es s).sw = s.sw := rfl
@[simp] theorem storeSet_meas (n : Nat) (es : List HarmonicEntry) : (storeSet n es s).meas = s.meas := rfl
@[simp] theorem storeSet_report (n : Nat) (es : List HarmonicEntry) : (storeSet n es s).report = s.report := rfl
@[simp] theorem storeSet_alert (n : Nat) (es : List HarmonicEntry) : (storeSet n es s).alert = s.alert := rfl

@[simp] theorem closeWindow_pending (line : SynLine) : (closeWindow line s).pending = s.pending := rfl
@[simp] theorem closeWindow_state (line : SynLine) : (closeWindow line s).state = s.state := rfl
@[simp] theorem closeWindow_inReset (line : SynLine) : (closeWindow line s).inReset = s.inReset := rfl
@[simp] theorem closeWindow_setup (line : SynLine) : (closeWindow line s).setup = s.setup := rfl
@[simp] theorem closeWindow_straps (line : SynLine) : (closeWindow line s).straps = s.straps := rfl
@[simp] theorem closeWindow_lines (line : SynLine) : (closeWindow line s).lines = s.lines := rfl
@[simp] theorem closeWindow_port (line : SynLine) : (closeWindow line s).port = s.port := rfl
@[simp] theorem closeWindow_cue (line : SynLine) : (closeWindow line s).cue = s.cue := rfl
@[simp] theorem closeWindow_group (line : SynLine) : (closeWindow line s).group = s.group := rfl
@[simp] theorem closeWindow_peer (line : SynLine) : (closeWindow line s).peer = s.peer := rfl
@[simp] theorem closeWindow_fault (line : SynLine) : (closeWindow line s).fault = s.fault := rfl
@[simp] theorem closeWindow_synth (line : SynLine) : (closeWindow line s).synth = s.synth := rfl
@[simp] theorem closeWindow_sw (line : SynLine) : (closeWindow line s).sw = s.sw := rfl
@[simp] theorem closeWindow_meas (line : SynLine) : (closeWindow line s).meas = s.meas := rfl
@[simp] theorem closeWindow_report (line : SynLine) : (closeWindow line s).report = s.report := rfl
@[simp] theorem closeWindow_alert (line : SynLine) : (closeWindow line s).alert = s.alert := rfl

@[simp] theorem jumpTo_pending (a : Angle) : (jumpTo a s).pending = s.pending := rfl
@[simp] theorem jumpTo_state (a : Angle) : (jumpTo a s).state = s.state := rfl
@[simp] theorem jumpTo_inReset (a : Angle) : (jumpTo a s).inReset = s.inReset := rfl
@[simp] theorem jumpTo_setup (a : Angle) : (jumpTo a s).setup = s.setup := rfl
@[simp] theorem jumpTo_straps (a : Angle) : (jumpTo a s).straps = s.straps := rfl
@[simp] theorem jumpTo_lines (a : Angle) : (jumpTo a s).lines = s.lines := rfl
@[simp] theorem jumpTo_port (a : Angle) : (jumpTo a s).port = s.port := rfl
@[simp] theorem jumpTo_cue (a : Angle) : (jumpTo a s).cue = s.cue := rfl
@[simp] theorem jumpTo_group (a : Angle) : (jumpTo a s).group = s.group := rfl
@[simp] theorem jumpTo_peer (a : Angle) : (jumpTo a s).peer = s.peer := rfl
@[simp] theorem jumpTo_fault (a : Angle) : (jumpTo a s).fault = s.fault := rfl
@[simp] theorem jumpTo_synth (a : Angle) : (jumpTo a s).synth = s.synth := rfl
@[simp] theorem jumpTo_sw (a : Angle) : (jumpTo a s).sw = s.sw := rfl
@[simp] theorem jumpTo_meas (a : Angle) : (jumpTo a s).meas = s.meas := rfl
@[simp] theorem jumpTo_report (a : Angle) : (jumpTo a s).report = s.report := rfl
@[simp] theorem jumpTo_alert (a : Angle) : (jumpTo a s).alert = s.alert := rfl

@[simp] theorem setCounts_pending (l k : Nat) : (setCounts l k s).pending = s.pending := rfl
@[simp] theorem setCounts_state (l k : Nat) : (setCounts l k s).state = s.state := rfl
@[simp] theorem setCounts_inReset (l k : Nat) : (setCounts l k s).inReset = s.inReset := rfl
@[simp] theorem setCounts_setup (l k : Nat) : (setCounts l k s).setup = s.setup := rfl
@[simp] theorem setCounts_straps (l k : Nat) : (setCounts l k s).straps = s.straps := rfl
@[simp] theorem setCounts_lines (l k : Nat) : (setCounts l k s).lines = s.lines := rfl
@[simp] theorem setCounts_port (l k : Nat) : (setCounts l k s).port = s.port := rfl
@[simp] theorem setCounts_cue (l k : Nat) : (setCounts l k s).cue = s.cue := rfl
@[simp] theorem setCounts_group (l k : Nat) : (setCounts l k s).group = s.group := rfl
@[simp] theorem setCounts_peer (l k : Nat) : (setCounts l k s).peer = s.peer := rfl
@[simp] theorem setCounts_fault (l k : Nat) : (setCounts l k s).fault = s.fault := rfl
@[simp] theorem setCounts_synth (l k : Nat) : (setCounts l k s).synth = s.synth := rfl
@[simp] theorem setCounts_sw (l k : Nat) : (setCounts l k s).sw = s.sw := rfl
@[simp] theorem setCounts_meas (l k : Nat) : (setCounts l k s).meas = s.meas := rfl
@[simp] theorem setCounts_report (l k : Nat) : (setCounts l k s).report = s.report := rfl
@[simp] theorem setCounts_alert (l k : Nat) : (setCounts l k s).alert = s.alert := rfl

@[simp] theorem snapTo_pending (f : Option Angle) : (snapTo f s).pending = s.pending := rfl
@[simp] theorem snapTo_state (f : Option Angle) : (snapTo f s).state = s.state := rfl
@[simp] theorem snapTo_inReset (f : Option Angle) : (snapTo f s).inReset = s.inReset := rfl
@[simp] theorem snapTo_setup (f : Option Angle) : (snapTo f s).setup = s.setup := rfl
@[simp] theorem snapTo_straps (f : Option Angle) : (snapTo f s).straps = s.straps := rfl
@[simp] theorem snapTo_lines (f : Option Angle) : (snapTo f s).lines = s.lines := rfl
@[simp] theorem snapTo_port (f : Option Angle) : (snapTo f s).port = s.port := rfl
@[simp] theorem snapTo_cue (f : Option Angle) : (snapTo f s).cue = s.cue := rfl
@[simp] theorem snapTo_group (f : Option Angle) : (snapTo f s).group = s.group := rfl
@[simp] theorem snapTo_peer (f : Option Angle) : (snapTo f s).peer = s.peer := rfl
@[simp] theorem snapTo_fault (f : Option Angle) : (snapTo f s).fault = s.fault := rfl
@[simp] theorem snapTo_synth (f : Option Angle) : (snapTo f s).synth = s.synth := rfl
@[simp] theorem snapTo_sw (f : Option Angle) : (snapTo f s).sw = s.sw := rfl
@[simp] theorem snapTo_report (f : Option Angle) : (snapTo f s).report = s.report := rfl
@[simp] theorem snapTo_alert (f : Option Angle) : (snapTo f s).alert = s.alert := rfl

@[simp] theorem pullIfLocked_pending : (pullIfLocked s).pending = s.pending := rfl
@[simp] theorem pullIfLocked_state : (pullIfLocked s).state = s.state := rfl
@[simp] theorem pullIfLocked_inReset : (pullIfLocked s).inReset = s.inReset := rfl
@[simp] theorem pullIfLocked_setup : (pullIfLocked s).setup = s.setup := rfl
@[simp] theorem pullIfLocked_straps : (pullIfLocked s).straps = s.straps := rfl
@[simp] theorem pullIfLocked_lines : (pullIfLocked s).lines = s.lines := rfl
@[simp] theorem pullIfLocked_port : (pullIfLocked s).port = s.port := rfl
@[simp] theorem pullIfLocked_cue : (pullIfLocked s).cue = s.cue := rfl
@[simp] theorem pullIfLocked_group : (pullIfLocked s).group = s.group := rfl
@[simp] theorem pullIfLocked_peer : (pullIfLocked s).peer = s.peer := rfl
@[simp] theorem pullIfLocked_fault : (pullIfLocked s).fault = s.fault := rfl
@[simp] theorem pullIfLocked_synth : (pullIfLocked s).synth = s.synth := rfl
@[simp] theorem pullIfLocked_sw : (pullIfLocked s).sw = s.sw := rfl
@[simp] theorem pullIfLocked_meas : (pullIfLocked s).meas = s.meas := rfl
@[simp] theorem pullIfLocked_report : (pullIfLocked s).report = s.report := rfl
@[simp] theorem pullIfLocked_alert : (pullIfLocked s).alert = s.alert := rfl

@[simp] theorem agePeers_pending : (agePeers s).pending = s.pending := rfl
@[simp] theorem agePeers_state : (agePeers s).state = s.state := rfl
@[simp] theorem agePeers_inReset : (agePeers s).inReset = s.inReset := rfl
@[simp] theorem agePeers_setup : (agePeers s).setup = s.setup := rfl
@[simp] theorem agePeers_straps : (agePeers s).straps = s.straps := rfl
@[simp] theorem agePeers_lines : (agePeers s).lines = s.lines := rfl
@[simp] theorem agePeers_port : (agePeers s).port = s.port := rfl
@[simp] theorem agePeers_cue : (agePeers s).cue = s.cue := rfl
@[simp] theorem agePeers_group : (agePeers s).group = s.group := rfl
@[simp] theorem agePeers_pll : (agePeers s).pll = s.pll := rfl
@[simp] theorem agePeers_fault : (agePeers s).fault = s.fault := rfl
@[simp] theorem agePeers_synth : (agePeers s).synth = s.synth := rfl
@[simp] theorem agePeers_sw : (agePeers s).sw = s.sw := rfl
@[simp] theorem agePeers_meas : (agePeers s).meas = s.meas := rfl
@[simp] theorem agePeers_report : (agePeers s).report = s.report := rfl
@[simp] theorem agePeers_alert : (agePeers s).alert = s.alert := rfl

@[simp] theorem setTagCount_pending (n : Fin 8) (k : Nat) : (setTagCount n k s).pending = s.pending := rfl
@[simp] theorem setTagCount_state (n : Fin 8) (k : Nat) : (setTagCount n k s).state = s.state := rfl
@[simp] theorem setTagCount_inReset (n : Fin 8) (k : Nat) : (setTagCount n k s).inReset = s.inReset := rfl
@[simp] theorem setTagCount_setup (n : Fin 8) (k : Nat) : (setTagCount n k s).setup = s.setup := rfl
@[simp] theorem setTagCount_straps (n : Fin 8) (k : Nat) : (setTagCount n k s).straps = s.straps := rfl
@[simp] theorem setTagCount_lines (n : Fin 8) (k : Nat) : (setTagCount n k s).lines = s.lines := rfl
@[simp] theorem setTagCount_port (n : Fin 8) (k : Nat) : (setTagCount n k s).port = s.port := rfl
@[simp] theorem setTagCount_cue (n : Fin 8) (k : Nat) : (setTagCount n k s).cue = s.cue := rfl
@[simp] theorem setTagCount_pll (n : Fin 8) (k : Nat) : (setTagCount n k s).pll = s.pll := rfl
@[simp] theorem setTagCount_peer (n : Fin 8) (k : Nat) : (setTagCount n k s).peer = s.peer := rfl
@[simp] theorem setTagCount_fault (n : Fin 8) (k : Nat) : (setTagCount n k s).fault = s.fault := rfl
@[simp] theorem setTagCount_synth (n : Fin 8) (k : Nat) : (setTagCount n k s).synth = s.synth := rfl
@[simp] theorem setTagCount_sw (n : Fin 8) (k : Nat) : (setTagCount n k s).sw = s.sw := rfl
@[simp] theorem setTagCount_meas (n : Fin 8) (k : Nat) : (setTagCount n k s).meas = s.meas := rfl
@[simp] theorem setTagCount_report (n : Fin 8) (k : Nat) : (setTagCount n k s).report = s.report := rfl
@[simp] theorem setTagCount_alert (n : Fin 8) (k : Nat) : (setTagCount n k s).alert = s.alert := rfl

@[simp] theorem setReceiver_pending (r : Receiver) : (setReceiver r s).pending = s.pending := rfl
@[simp] theorem setReceiver_state (r : Receiver) : (setReceiver r s).state = s.state := rfl
@[simp] theorem setReceiver_inReset (r : Receiver) : (setReceiver r s).inReset = s.inReset := rfl
@[simp] theorem setReceiver_setup (r : Receiver) : (setReceiver r s).setup = s.setup := rfl
@[simp] theorem setReceiver_straps (r : Receiver) : (setReceiver r s).straps = s.straps := rfl
@[simp] theorem setReceiver_lines (r : Receiver) : (setReceiver r s).lines = s.lines := rfl
@[simp] theorem setReceiver_port (r : Receiver) : (setReceiver r s).port = s.port := rfl
@[simp] theorem setReceiver_cue (r : Receiver) : (setReceiver r s).cue = s.cue := rfl
@[simp] theorem setReceiver_group (r : Receiver) : (setReceiver r s).group = s.group := rfl
@[simp] theorem setReceiver_pll (r : Receiver) : (setReceiver r s).pll = s.pll := rfl
@[simp] theorem setReceiver_fault (r : Receiver) : (setReceiver r s).fault = s.fault := rfl
@[simp] theorem setReceiver_synth (r : Receiver) : (setReceiver r s).synth = s.synth := rfl
@[simp] theorem setReceiver_sw (r : Receiver) : (setReceiver r s).sw = s.sw := rfl
@[simp] theorem setReceiver_meas (r : Receiver) : (setReceiver r s).meas = s.meas := rfl
@[simp] theorem setReceiver_report (r : Receiver) : (setReceiver r s).report = s.report := rfl
@[simp] theorem setReceiver_alert (r : Receiver) : (setReceiver r s).alert = s.alert := rfl

@[simp] theorem joinGroup_pending : (joinGroup s).pending = s.pending := rfl
@[simp] theorem joinGroup_inReset : (joinGroup s).inReset = s.inReset := rfl
@[simp] theorem joinGroup_setup : (joinGroup s).setup = s.setup := rfl
@[simp] theorem joinGroup_straps : (joinGroup s).straps = s.straps := rfl
@[simp] theorem joinGroup_lines : (joinGroup s).lines = s.lines := rfl
@[simp] theorem joinGroup_port : (joinGroup s).port = s.port := rfl
@[simp] theorem joinGroup_cue : (joinGroup s).cue = s.cue := rfl
@[simp] theorem joinGroup_group : (joinGroup s).group = s.group := rfl
@[simp] theorem joinGroup_fault : (joinGroup s).fault = s.fault := rfl
@[simp] theorem joinGroup_synth : (joinGroup s).synth = s.synth := rfl
@[simp] theorem joinGroup_sw : (joinGroup s).sw = s.sw := rfl
@[simp] theorem joinGroup_report : (joinGroup s).report = s.report := rfl
@[simp] theorem joinGroup_alert : (joinGroup s).alert = s.alert := rfl

@[simp] theorem beginPulse_pending : (beginPulse s).pending = s.pending := rfl
@[simp] theorem beginPulse_state : (beginPulse s).state = s.state := rfl
@[simp] theorem beginPulse_inReset : (beginPulse s).inReset = s.inReset := rfl
@[simp] theorem beginPulse_setup : (beginPulse s).setup = s.setup := rfl
@[simp] theorem beginPulse_straps : (beginPulse s).straps = s.straps := rfl
@[simp] theorem beginPulse_lines : (beginPulse s).lines = s.lines := rfl
@[simp] theorem beginPulse_port : (beginPulse s).port = s.port := rfl
@[simp] theorem beginPulse_cue : (beginPulse s).cue = s.cue := rfl
@[simp] theorem beginPulse_pll : (beginPulse s).pll = s.pll := rfl
@[simp] theorem beginPulse_peer : (beginPulse s).peer = s.peer := rfl
@[simp] theorem beginPulse_fault : (beginPulse s).fault = s.fault := rfl
@[simp] theorem beginPulse_synth : (beginPulse s).synth = s.synth := rfl
@[simp] theorem beginPulse_sw : (beginPulse s).sw = s.sw := rfl
@[simp] theorem beginPulse_meas : (beginPulse s).meas = s.meas := rfl
@[simp] theorem beginPulse_report : (beginPulse s).report = s.report := rfl
@[simp] theorem beginPulse_alert : (beginPulse s).alert = s.alert := rfl

@[simp] theorem fixRoster_pending : (fixRoster s).pending = s.pending := rfl
@[simp] theorem fixRoster_state : (fixRoster s).state = s.state := rfl
@[simp] theorem fixRoster_inReset : (fixRoster s).inReset = s.inReset := rfl
@[simp] theorem fixRoster_setup : (fixRoster s).setup = s.setup := rfl
@[simp] theorem fixRoster_straps : (fixRoster s).straps = s.straps := rfl
@[simp] theorem fixRoster_lines : (fixRoster s).lines = s.lines := rfl
@[simp] theorem fixRoster_port : (fixRoster s).port = s.port := rfl
@[simp] theorem fixRoster_cue : (fixRoster s).cue = s.cue := rfl
@[simp] theorem fixRoster_group : (fixRoster s).group = s.group := rfl
@[simp] theorem fixRoster_pll : (fixRoster s).pll = s.pll := rfl
@[simp] theorem fixRoster_fault : (fixRoster s).fault = s.fault := rfl
@[simp] theorem fixRoster_synth : (fixRoster s).synth = s.synth := rfl
@[simp] theorem fixRoster_sw : (fixRoster s).sw = s.sw := rfl
@[simp] theorem fixRoster_meas : (fixRoster s).meas = s.meas := rfl
@[simp] theorem fixRoster_report : (fixRoster s).report = s.report := rfl
@[simp] theorem fixRoster_alert : (fixRoster s).alert = s.alert := rfl

@[simp] theorem beginOutput_pending : (beginOutput s).pending = s.pending := rfl
@[simp] theorem beginOutput_state : (beginOutput s).state = s.state := rfl
@[simp] theorem beginOutput_inReset : (beginOutput s).inReset = s.inReset := rfl
@[simp] theorem beginOutput_setup : (beginOutput s).setup = s.setup := rfl
@[simp] theorem beginOutput_straps : (beginOutput s).straps = s.straps := rfl
@[simp] theorem beginOutput_lines : (beginOutput s).lines = s.lines := rfl
@[simp] theorem beginOutput_port : (beginOutput s).port = s.port := rfl
@[simp] theorem beginOutput_cue : (beginOutput s).cue = s.cue := rfl
@[simp] theorem beginOutput_group : (beginOutput s).group = s.group := rfl
@[simp] theorem beginOutput_pll : (beginOutput s).pll = s.pll := rfl
@[simp] theorem beginOutput_fault : (beginOutput s).fault = s.fault := rfl
@[simp] theorem beginOutput_sw : (beginOutput s).sw = s.sw := rfl
@[simp] theorem beginOutput_report : (beginOutput s).report = s.report := rfl
@[simp] theorem beginOutput_alert : (beginOutput s).alert = s.alert := rfl

@[simp] theorem setFltLine_pending (high : Bool) : (setFltLine high s).pending = s.pending := rfl
@[simp] theorem setFltLine_state (high : Bool) : (setFltLine high s).state = s.state := rfl
@[simp] theorem setFltLine_inReset (high : Bool) : (setFltLine high s).inReset = s.inReset := rfl
@[simp] theorem setFltLine_setup (high : Bool) : (setFltLine high s).setup = s.setup := rfl
@[simp] theorem setFltLine_straps (high : Bool) : (setFltLine high s).straps = s.straps := rfl
@[simp] theorem setFltLine_port (high : Bool) : (setFltLine high s).port = s.port := rfl
@[simp] theorem setFltLine_cue (high : Bool) : (setFltLine high s).cue = s.cue := rfl
@[simp] theorem setFltLine_group (high : Bool) : (setFltLine high s).group = s.group := rfl
@[simp] theorem setFltLine_pll (high : Bool) : (setFltLine high s).pll = s.pll := rfl
@[simp] theorem setFltLine_peer (high : Bool) : (setFltLine high s).peer = s.peer := rfl
@[simp] theorem setFltLine_fault (high : Bool) : (setFltLine high s).fault = s.fault := rfl
@[simp] theorem setFltLine_synth (high : Bool) : (setFltLine high s).synth = s.synth := rfl
@[simp] theorem setFltLine_sw (high : Bool) : (setFltLine high s).sw = s.sw := rfl
@[simp] theorem setFltLine_meas (high : Bool) : (setFltLine high s).meas = s.meas := rfl
@[simp] theorem setFltLine_report (high : Bool) : (setFltLine high s).report = s.report := rfl
@[simp] theorem setFltLine_alert (high : Bool) : (setFltLine high s).alert = s.alert := rfl

@[simp] theorem applySettings_pending (x : AlertSettings) : (applySettings x s).pending = s.pending := rfl
@[simp] theorem applySettings_state (x : AlertSettings) : (applySettings x s).state = s.state := rfl
@[simp] theorem applySettings_inReset (x : AlertSettings) : (applySettings x s).inReset = s.inReset := rfl
@[simp] theorem applySettings_setup (x : AlertSettings) : (applySettings x s).setup = s.setup := rfl
@[simp] theorem applySettings_straps (x : AlertSettings) : (applySettings x s).straps = s.straps := rfl
@[simp] theorem applySettings_lines (x : AlertSettings) : (applySettings x s).lines = s.lines := rfl
@[simp] theorem applySettings_port (x : AlertSettings) : (applySettings x s).port = s.port := rfl
@[simp] theorem applySettings_cue (x : AlertSettings) : (applySettings x s).cue = s.cue := rfl
@[simp] theorem applySettings_group (x : AlertSettings) : (applySettings x s).group = s.group := rfl
@[simp] theorem applySettings_pll (x : AlertSettings) : (applySettings x s).pll = s.pll := rfl
@[simp] theorem applySettings_peer (x : AlertSettings) : (applySettings x s).peer = s.peer := rfl
@[simp] theorem applySettings_fault (x : AlertSettings) : (applySettings x s).fault = s.fault := rfl
@[simp] theorem applySettings_synth (x : AlertSettings) : (applySettings x s).synth = s.synth := rfl
@[simp] theorem applySettings_sw (x : AlertSettings) : (applySettings x s).sw = s.sw := rfl
@[simp] theorem applySettings_meas (x : AlertSettings) : (applySettings x s).meas = s.meas := rfl
@[simp] theorem applySettings_report (x : AlertSettings) : (applySettings x s).report = s.report := rfl

@[simp] theorem dropReply_pending : (dropReply s).pending = s.pending := rfl
@[simp] theorem dropReply_state : (dropReply s).state = s.state := rfl
@[simp] theorem dropReply_inReset : (dropReply s).inReset = s.inReset := rfl
@[simp] theorem dropReply_setup : (dropReply s).setup = s.setup := rfl
@[simp] theorem dropReply_straps : (dropReply s).straps = s.straps := rfl
@[simp] theorem dropReply_lines : (dropReply s).lines = s.lines := rfl
@[simp] theorem dropReply_cue : (dropReply s).cue = s.cue := rfl
@[simp] theorem dropReply_group : (dropReply s).group = s.group := rfl
@[simp] theorem dropReply_pll : (dropReply s).pll = s.pll := rfl
@[simp] theorem dropReply_peer : (dropReply s).peer = s.peer := rfl
@[simp] theorem dropReply_fault : (dropReply s).fault = s.fault := rfl
@[simp] theorem dropReply_synth : (dropReply s).synth = s.synth := rfl
@[simp] theorem dropReply_sw : (dropReply s).sw = s.sw := rfl
@[simp] theorem dropReply_meas : (dropReply s).meas = s.meas := rfl
@[simp] theorem dropReply_report : (dropReply s).report = s.report := rfl
@[simp] theorem dropReply_alert : (dropReply s).alert = s.alert := rfl

@[simp] theorem removeCarried_pending (k : Nat) : (removeCarried k s).pending = s.pending := rfl
@[simp] theorem removeCarried_state (k : Nat) : (removeCarried k s).state = s.state := rfl
@[simp] theorem removeCarried_inReset (k : Nat) : (removeCarried k s).inReset = s.inReset := rfl
@[simp] theorem removeCarried_setup (k : Nat) : (removeCarried k s).setup = s.setup := rfl
@[simp] theorem removeCarried_straps (k : Nat) : (removeCarried k s).straps = s.straps := rfl
@[simp] theorem removeCarried_lines (k : Nat) : (removeCarried k s).lines = s.lines := rfl
@[simp] theorem removeCarried_port (k : Nat) : (removeCarried k s).port = s.port := rfl
@[simp] theorem removeCarried_cue (k : Nat) : (removeCarried k s).cue = s.cue := rfl
@[simp] theorem removeCarried_group (k : Nat) : (removeCarried k s).group = s.group := rfl
@[simp] theorem removeCarried_pll (k : Nat) : (removeCarried k s).pll = s.pll := rfl
@[simp] theorem removeCarried_peer (k : Nat) : (removeCarried k s).peer = s.peer := rfl
@[simp] theorem removeCarried_fault (k : Nat) : (removeCarried k s).fault = s.fault := rfl
@[simp] theorem removeCarried_synth (k : Nat) : (removeCarried k s).synth = s.synth := rfl
@[simp] theorem removeCarried_sw (k : Nat) : (removeCarried k s).sw = s.sw := rfl
@[simp] theorem removeCarried_meas (k : Nat) : (removeCarried k s).meas = s.meas := rfl
@[simp] theorem removeCarried_alert (k : Nat) : (removeCarried k s).alert = s.alert := rfl

@[simp] theorem clearResetFlags_pending : (clearResetFlags s).pending = s.pending := rfl
@[simp] theorem clearResetFlags_state : (clearResetFlags s).state = s.state := rfl
@[simp] theorem clearResetFlags_inReset : (clearResetFlags s).inReset = s.inReset := rfl
@[simp] theorem clearResetFlags_setup : (clearResetFlags s).setup = s.setup := rfl
@[simp] theorem clearResetFlags_straps : (clearResetFlags s).straps = s.straps := rfl
@[simp] theorem clearResetFlags_lines : (clearResetFlags s).lines = s.lines := rfl
@[simp] theorem clearResetFlags_cue : (clearResetFlags s).cue = s.cue := rfl
@[simp] theorem clearResetFlags_group : (clearResetFlags s).group = s.group := rfl
@[simp] theorem clearResetFlags_pll : (clearResetFlags s).pll = s.pll := rfl
@[simp] theorem clearResetFlags_peer : (clearResetFlags s).peer = s.peer := rfl
@[simp] theorem clearResetFlags_fault : (clearResetFlags s).fault = s.fault := rfl
@[simp] theorem clearResetFlags_synth : (clearResetFlags s).synth = s.synth := rfl
@[simp] theorem clearResetFlags_sw : (clearResetFlags s).sw = s.sw := rfl
@[simp] theorem clearResetFlags_meas : (clearResetFlags s).meas = s.meas := rfl
@[simp] theorem clearResetFlags_report : (clearResetFlags s).report = s.report := rfl
@[simp] theorem clearResetFlags_alert : (clearResetFlags s).alert = s.alert := rfl

@[simp] theorem moveTo_pending (p : PhaseLock) : (moveTo p s).pending = s.pending := rfl
@[simp] theorem moveTo_state (p : PhaseLock) : (moveTo p s).state = s.state := rfl
@[simp] theorem moveTo_inReset (p : PhaseLock) : (moveTo p s).inReset = s.inReset := rfl
@[simp] theorem moveTo_setup (p : PhaseLock) : (moveTo p s).setup = s.setup := rfl
@[simp] theorem moveTo_straps (p : PhaseLock) : (moveTo p s).straps = s.straps := rfl
@[simp] theorem moveTo_lines (p : PhaseLock) : (moveTo p s).lines = s.lines := rfl
@[simp] theorem moveTo_port (p : PhaseLock) : (moveTo p s).port = s.port := rfl
@[simp] theorem moveTo_group (p : PhaseLock) : (moveTo p s).group = s.group := rfl
@[simp] theorem moveTo_peer (p : PhaseLock) : (moveTo p s).peer = s.peer := rfl
@[simp] theorem moveTo_fault (p : PhaseLock) : (moveTo p s).fault = s.fault := rfl
@[simp] theorem moveTo_report (p : PhaseLock) : (moveTo p s).report = s.report := rfl
@[simp] theorem moveTo_alert (p : PhaseLock) : (moveTo p s).alert = s.alert := rfl

@[simp] theorem arrive_pending (p : PhaseLock) : (arrive p s).pending = s.pending := rfl
@[simp] theorem arrive_state (p : PhaseLock) : (arrive p s).state = s.state := rfl
@[simp] theorem arrive_inReset (p : PhaseLock) : (arrive p s).inReset = s.inReset := rfl
@[simp] theorem arrive_setup (p : PhaseLock) : (arrive p s).setup = s.setup := rfl
@[simp] theorem arrive_straps (p : PhaseLock) : (arrive p s).straps = s.straps := rfl
@[simp] theorem arrive_lines (p : PhaseLock) : (arrive p s).lines = s.lines := rfl
@[simp] theorem arrive_port (p : PhaseLock) : (arrive p s).port = s.port := rfl
@[simp] theorem arrive_group (p : PhaseLock) : (arrive p s).group = s.group := rfl
@[simp] theorem arrive_peer (p : PhaseLock) : (arrive p s).peer = s.peer := rfl
@[simp] theorem arrive_fault (p : PhaseLock) : (arrive p s).fault = s.fault := rfl
@[simp] theorem arrive_report (p : PhaseLock) : (arrive p s).report = s.report := rfl
@[simp] theorem arrive_alert (p : PhaseLock) : (arrive p s).alert = s.alert := rfl

@[simp] theorem countAdvance_pending : (countAdvance s).pending = s.pending := rfl
@[simp] theorem countAdvance_state : (countAdvance s).state = s.state := rfl
@[simp] theorem countAdvance_inReset : (countAdvance s).inReset = s.inReset := rfl
@[simp] theorem countAdvance_setup : (countAdvance s).setup = s.setup := rfl
@[simp] theorem countAdvance_straps : (countAdvance s).straps = s.straps := rfl
@[simp] theorem countAdvance_lines : (countAdvance s).lines = s.lines := rfl
@[simp] theorem countAdvance_port : (countAdvance s).port = s.port := rfl
@[simp] theorem countAdvance_group : (countAdvance s).group = s.group := rfl
@[simp] theorem countAdvance_pll : (countAdvance s).pll = s.pll := rfl
@[simp] theorem countAdvance_peer : (countAdvance s).peer = s.peer := rfl
@[simp] theorem countAdvance_fault : (countAdvance s).fault = s.fault := rfl
@[simp] theorem countAdvance_synth : (countAdvance s).synth = s.synth := rfl
@[simp] theorem countAdvance_sw : (countAdvance s).sw = s.sw := rfl
@[simp] theorem countAdvance_meas : (countAdvance s).meas = s.meas := rfl
@[simp] theorem countAdvance_report : (countAdvance s).report = s.report := rfl
@[simp] theorem countAdvance_alert : (countAdvance s).alert = s.alert := rfl

@[simp] theorem placeMarks_pending (m : Meas) : (placeMarks m s).pending = s.pending := rfl
@[simp] theorem placeMarks_state (m : Meas) : (placeMarks m s).state = s.state := rfl
@[simp] theorem placeMarks_inReset (m : Meas) : (placeMarks m s).inReset = s.inReset := rfl
@[simp] theorem placeMarks_setup (m : Meas) : (placeMarks m s).setup = s.setup := rfl
@[simp] theorem placeMarks_straps (m : Meas) : (placeMarks m s).straps = s.straps := rfl
@[simp] theorem placeMarks_lines (m : Meas) : (placeMarks m s).lines = s.lines := rfl
@[simp] theorem placeMarks_port (m : Meas) : (placeMarks m s).port = s.port := rfl
@[simp] theorem placeMarks_cue (m : Meas) : (placeMarks m s).cue = s.cue := rfl
@[simp] theorem placeMarks_group (m : Meas) : (placeMarks m s).group = s.group := rfl
@[simp] theorem placeMarks_pll (m : Meas) : (placeMarks m s).pll = s.pll := rfl
@[simp] theorem placeMarks_peer (m : Meas) : (placeMarks m s).peer = s.peer := rfl
@[simp] theorem placeMarks_fault (m : Meas) : (placeMarks m s).fault = s.fault := rfl
@[simp] theorem placeMarks_synth (m : Meas) : (placeMarks m s).synth = s.synth := rfl
@[simp] theorem placeMarks_sw (m : Meas) : (placeMarks m s).sw = s.sw := rfl
@[simp] theorem placeMarks_report (m : Meas) : (placeMarks m s).report = s.report := rfl
@[simp] theorem placeMarks_alert (m : Meas) : (placeMarks m s).alert = s.alert := rfl

@[simp] theorem latchDue_pending (old : Synth) (b : Bool) : (latchDue old b s).pending = s.pending := rfl
@[simp] theorem latchDue_state (old : Synth) (b : Bool) : (latchDue old b s).state = s.state := rfl
@[simp] theorem latchDue_inReset (old : Synth) (b : Bool) : (latchDue old b s).inReset = s.inReset := rfl
@[simp] theorem latchDue_setup (old : Synth) (b : Bool) : (latchDue old b s).setup = s.setup := rfl
@[simp] theorem latchDue_straps (old : Synth) (b : Bool) : (latchDue old b s).straps = s.straps := rfl
@[simp] theorem latchDue_lines (old : Synth) (b : Bool) : (latchDue old b s).lines = s.lines := rfl
@[simp] theorem latchDue_port (old : Synth) (b : Bool) : (latchDue old b s).port = s.port := rfl
@[simp] theorem latchDue_cue (old : Synth) (b : Bool) : (latchDue old b s).cue = s.cue := rfl
@[simp] theorem latchDue_group (old : Synth) (b : Bool) : (latchDue old b s).group = s.group := rfl
@[simp] theorem latchDue_pll (old : Synth) (b : Bool) : (latchDue old b s).pll = s.pll := rfl
@[simp] theorem latchDue_peer (old : Synth) (b : Bool) : (latchDue old b s).peer = s.peer := rfl
@[simp] theorem latchDue_fault (old : Synth) (b : Bool) : (latchDue old b s).fault = s.fault := rfl
@[simp] theorem latchDue_sw (old : Synth) (b : Bool) : (latchDue old b s).sw = s.sw := rfl
@[simp] theorem latchDue_meas (old : Synth) (b : Bool) : (latchDue old b s).meas = s.meas := rfl
@[simp] theorem latchDue_report (old : Synth) (b : Bool) : (latchDue old b s).report = s.report := rfl
@[simp] theorem latchDue_alert (old : Synth) (b : Bool) : (latchDue old b s).alert = s.alert := rfl

end Sys2Proof.Laws
end

