-- ==== Sys2Proof/Laws/Ops.lean ====
section
/-! SUPPORT. The blocks that each shared operation leaves as they were, whatever branch it takes. -/

namespace Sys2Proof.Laws

open Sys2Proof Sys2Proof.Machine

variable (s : State)

@[simp] theorem raiseIf_pending (b : Bool) (c : AlertCause) : (raiseIf b c s).pending = s.pending := by
  unfold raiseIf; try dsimp only
  (repeat' split) <;> simp
@[simp] theorem raiseIf_state (b : Bool) (c : AlertCause) : (raiseIf b c s).state = s.state := by
  unfold raiseIf; try dsimp only
  (repeat' split) <;> simp
@[simp] theorem raiseIf_inReset (b : Bool) (c : AlertCause) : (raiseIf b c s).inReset = s.inReset := by
  unfold raiseIf; try dsimp only
  (repeat' split) <;> simp
@[simp] theorem raiseIf_setup (b : Bool) (c : AlertCause) : (raiseIf b c s).setup = s.setup := by
  unfold raiseIf; try dsimp only
  (repeat' split) <;> simp
@[simp] theorem raiseIf_straps (b : Bool) (c : AlertCause) : (raiseIf b c s).straps = s.straps := by
  unfold raiseIf; try dsimp only
  (repeat' split) <;> simp
@[simp] theorem raiseIf_lines (b : Bool) (c : AlertCause) : (raiseIf b c s).lines = s.lines := by
  unfold raiseIf; try dsimp only
  (repeat' split) <;> simp
@[simp] theorem raiseIf_port (b : Bool) (c : AlertCause) : (raiseIf b c s).port = s.port := by
  unfold raiseIf; try dsimp only
  (repeat' split) <;> simp
@[simp] theorem raiseIf_cue (b : Bool) (c : AlertCause) : (raiseIf b c s).cue = s.cue := by
  unfold raiseIf; try dsimp only
  (repeat' split) <;> simp
@[simp] theorem raiseIf_group (b : Bool) (c : AlertCause) : (raiseIf b c s).group = s.group := by
  unfold raiseIf; try dsimp only
  (repeat' split) <;> simp
@[simp] theorem raiseIf_pll (b : Bool) (c : AlertCause) : (raiseIf b c s).pll = s.pll := by
  unfold raiseIf; try dsimp only
  (repeat' split) <;> simp
@[simp] theorem raiseIf_peer (b : Bool) (c : AlertCause) : (raiseIf b c s).peer = s.peer := by
  unfold raiseIf; try dsimp only
  (repeat' split) <;> simp
@[simp] theorem raiseIf_fault (b : Bool) (c : AlertCause) : (raiseIf b c s).fault = s.fault := by
  unfold raiseIf; try dsimp only
  (repeat' split) <;> simp
@[simp] theorem raiseIf_synth (b : Bool) (c : AlertCause) : (raiseIf b c s).synth = s.synth := by
  unfold raiseIf; try dsimp only
  (repeat' split) <;> simp
@[simp] theorem raiseIf_sw (b : Bool) (c : AlertCause) : (raiseIf b c s).sw = s.sw := by
  unfold raiseIf; try dsimp only
  (repeat' split) <;> simp
@[simp] theorem raiseIf_meas (b : Bool) (c : AlertCause) : (raiseIf b c s).meas = s.meas := by
  unfold raiseIf; try dsimp only
  (repeat' split) <;> simp
@[simp] theorem raiseIf_report (b : Bool) (c : AlertCause) : (raiseIf b c s).report = s.report := by
  unfold raiseIf; try dsimp only
  (repeat' split) <;> simp

@[simp] theorem offer_pending (r : Record) : (offer r s).pending = s.pending := by
  unfold offer; try dsimp only
  (repeat' split) <;> simp
@[simp] theorem offer_state (r : Record) : (offer r s).state = s.state := by
  unfold offer; try dsimp only
  (repeat' split) <;> simp
@[simp] theorem offer_inReset (r : Record) : (offer r s).inReset = s.inReset := by
  unfold offer; try dsimp only
  (repeat' split) <;> simp
@[simp] theorem offer_setup (r : Record) : (offer r s).setup = s.setup := by
  unfold offer; try dsimp only
  (repeat' split) <;> simp
@[simp] theorem offer_straps (r : Record) : (offer r s).straps = s.straps := by
  unfold offer; try dsimp only
  (repeat' split) <;> simp
@[simp] theorem offer_lines (r : Record) : (offer r s).lines = s.lines := by
  unfold offer; try dsimp only
  (repeat' split) <;> simp
@[simp] theorem offer_port (r : Record) : (offer r s).port = s.port := by
  unfold offer; try dsimp only
  (repeat' split) <;> simp
@[simp] theorem offer_cue (r : Record) : (offer r s).cue = s.cue := by
  unfold offer; try dsimp only
  (repeat' split) <;> simp
@[simp] theorem offer_group (r : Record) : (offer r s).group = s.group := by
  unfold offer; try dsimp only
  (repeat' split) <;> simp
@[simp] theorem offer_pll (r : Record) : (offer r s).pll = s.pll := by
  unfold offer; try dsimp only
  (repeat' split) <;> simp
@[simp] theorem offer_peer (r : Record) : (offer r s).peer = s.peer := by
  unfold offer; try dsimp only
  (repeat' split) <;> simp
@[simp] theorem offer_fault (r : Record) : (offer r s).fault = s.fault := by
  unfold offer; try dsimp only
  (repeat' split) <;> simp
@[simp] theorem offer_synth (r : Record) : (offer r s).synth = s.synth := by
  unfold offer; try dsimp only
  (repeat' split) <;> simp
@[simp] theorem offer_sw (r : Record) : (offer r s).sw = s.sw := by
  unfold offer; try dsimp only
  (repeat' split) <;> simp
@[simp] theorem offer_meas (r : Record) : (offer r s).meas = s.meas := by
  unfold offer; try dsimp only
  (repeat' split) <;> simp

@[simp] theorem openSw0_pending : (openSw0 s).pending = s.pending := by
  unfold openSw0; try dsimp only
  (repeat' split) <;> simp
@[simp] theorem openSw0_state : (openSw0 s).state = s.state := by
  unfold openSw0; try dsimp only
  (repeat' split) <;> simp
@[simp] theorem openSw0_inReset : (openSw0 s).inReset = s.inReset := by
  unfold openSw0; try dsimp only
  (repeat' split) <;> simp
@[simp] theorem openSw0_setup : (openSw0 s).setup = s.setup := by
  unfold openSw0; try dsimp only
  (repeat' split) <;> simp
@[simp] theorem openSw0_straps : (openSw0 s).straps = s.straps := by
  unfold openSw0; try dsimp only
  (repeat' split) <;> simp
@[simp] theorem openSw0_lines : (openSw0 s).lines = s.lines := by
  unfold openSw0; try dsimp only
  (repeat' split) <;> simp
@[simp] theorem openSw0_port : (openSw0 s).port = s.port := by
  unfold openSw0; try dsimp only
  (repeat' split) <;> simp
@[simp] theorem openSw0_cue : (openSw0 s).cue = s.cue := by
  unfold openSw0; try dsimp only
  (repeat' split) <;> simp
@[simp] theorem openSw0_group : (openSw0 s).group = s.group := by
  unfold openSw0; try dsimp only
  (repeat' split) <;> simp
@[simp] theorem openSw0_pll : (openSw0 s).pll = s.pll := by
  unfold openSw0; try dsimp only
  (repeat' split) <;> simp
@[simp] theorem openSw0_peer : (openSw0 s).peer = s.peer := by
  unfold openSw0; try dsimp only
  (repeat' split) <;> simp
@[simp] theorem openSw0_fault : (openSw0 s).fault = s.fault := by
  unfold openSw0; try dsimp only
  (repeat' split) <;> simp
@[simp] theorem openSw0_synth : (openSw0 s).synth = s.synth := by
  unfold openSw0; try dsimp only
  (repeat' split) <;> simp
@[simp] theorem openSw0_report : (openSw0 s).report = s.report := by
  unfold openSw0; try dsimp only
  (repeat' split) <;> simp
@[simp] theorem openSw0_alert : (openSw0 s).alert = s.alert := by
  unfold openSw0; try dsimp only
  (repeat' split) <;> simp

@[simp] theorem openSw1_pending : (openSw1 s).pending = s.pending := by
  unfold openSw1; try dsimp only
  (repeat' split) <;> simp
@[simp] theorem openSw1_state : (openSw1 s).state = s.state := by
  unfold openSw1; try dsimp only
  (repeat' split) <;> simp
@[simp] theorem openSw1_inReset : (openSw1 s).inReset = s.inReset := by
  unfold openSw1; try dsimp only
  (repeat' split) <;> simp
@[simp] theorem openSw1_setup : (openSw1 s).setup = s.setup := by
  unfold openSw1; try dsimp only
  (repeat' split) <;> simp
@[simp] theorem openSw1_straps : (openSw1 s).straps = s.straps := by
  unfold openSw1; try dsimp only
  (repeat' split) <;> simp
@[simp] theorem openSw1_lines : (openSw1 s).lines = s.lines := by
  unfold openSw1; try dsimp only
  (repeat' split) <;> simp
@[simp] theorem openSw1_port : (openSw1 s).port = s.port := by
  unfold openSw1; try dsimp only
  (repeat' split) <;> simp
@[simp] theorem openSw1_cue : (openSw1 s).cue = s.cue := by
  unfold openSw1; try dsimp only
  (repeat' split) <;> simp
@[simp] theorem openSw1_group : (openSw1 s).group = s.group := by
  unfold openSw1; try dsimp only
  (repeat' split) <;> simp
@[simp] theorem openSw1_pll : (openSw1 s).pll = s.pll := by
  unfold openSw1; try dsimp only
  (repeat' split) <;> simp
@[simp] theorem openSw1_peer : (openSw1 s).peer = s.peer := by
  unfold openSw1; try dsimp only
  (repeat' split) <;> simp
@[simp] theorem openSw1_fault : (openSw1 s).fault = s.fault := by
  unfold openSw1; try dsimp only
  (repeat' split) <;> simp
@[simp] theorem openSw1_synth : (openSw1 s).synth = s.synth := by
  unfold openSw1; try dsimp only
  (repeat' split) <;> simp
@[simp] theorem openSw1_report : (openSw1 s).report = s.report := by
  unfold openSw1; try dsimp only
  (repeat' split) <;> simp
@[simp] theorem openSw1_alert : (openSw1 s).alert = s.alert := by
  unfold openSw1; try dsimp only
  (repeat' split) <;> simp

@[simp] theorem closeSw0_pending : (closeSw0 s).pending = s.pending := by
  unfold closeSw0; try dsimp only
  (repeat' split) <;> simp
@[simp] theorem closeSw0_state : (closeSw0 s).state = s.state := by
  unfold closeSw0; try dsimp only
  (repeat' split) <;> simp
@[simp] theorem closeSw0_inReset : (closeSw0 s).inReset = s.inReset := by
  unfold closeSw0; try dsimp only
  (repeat' split) <;> simp
@[simp] theorem closeSw0_setup : (closeSw0 s).setup = s.setup := by
  unfold closeSw0; try dsimp only
  (repeat' split) <;> simp
@[simp] theorem closeSw0_straps : (closeSw0 s).straps = s.straps := by
  unfold closeSw0; try dsimp only
  (repeat' split) <;> simp
@[simp] theorem closeSw0_lines : (closeSw0 s).lines = s.lines := by
  unfold closeSw0; try dsimp only
  (repeat' split) <;> simp
@[simp] theorem closeSw0_port : (closeSw0 s).port = s.port := by
  unfold closeSw0; try dsimp only
  (repeat' split) <;> simp
@[simp] theorem closeSw0_cue : (closeSw0 s).cue = s.cue := by
  unfold closeSw0; try dsimp only
  (repeat' split) <;> simp
@[simp] theorem closeSw0_group : (closeSw0 s).group = s.group := by
  unfold closeSw0; try dsimp only
  (repeat' split) <;> simp
@[simp] theorem closeSw0_pll : (closeSw0 s).pll = s.pll := by
  unfold closeSw0; try dsimp only
  (repeat' split) <;> simp
@[simp] theorem closeSw0_peer : (closeSw0 s).peer = s.peer := by
  unfold closeSw0; try dsimp only
  (repeat' split) <;> simp
@[simp] theorem closeSw0_fault : (closeSw0 s).fault = s.fault := by
  unfold closeSw0; try dsimp only
  (repeat' split) <;> simp
@[simp] theorem closeSw0_synth : (closeSw0 s).synth = s.synth := by
  unfold closeSw0; try dsimp only
  (repeat' split) <;> simp
@[simp] theorem closeSw0_report : (closeSw0 s).report = s.report := by
  unfold closeSw0; try dsimp only
  (repeat' split) <;> simp
@[simp] theorem closeSw0_alert : (closeSw0 s).alert = s.alert := by
  unfold closeSw0; try dsimp only
  (repeat' split) <;> simp

@[simp] theorem closeSw1_pending : (closeSw1 s).pending = s.pending := by
  unfold closeSw1; try dsimp only
  (repeat' split) <;> simp
@[simp] theorem closeSw1_state : (closeSw1 s).state = s.state := by
  unfold closeSw1; try dsimp only
  (repeat' split) <;> simp
@[simp] theorem closeSw1_inReset : (closeSw1 s).inReset = s.inReset := by
  unfold closeSw1; try dsimp only
  (repeat' split) <;> simp
@[simp] theorem closeSw1_setup : (closeSw1 s).setup = s.setup := by
  unfold closeSw1; try dsimp only
  (repeat' split) <;> simp
@[simp] theorem closeSw1_straps : (closeSw1 s).straps = s.straps := by
  unfold closeSw1; try dsimp only
  (repeat' split) <;> simp
@[simp] theorem closeSw1_lines : (closeSw1 s).lines = s.lines := by
  unfold closeSw1; try dsimp only
  (repeat' split) <;> simp
@[simp] theorem closeSw1_port : (closeSw1 s).port = s.port := by
  unfold closeSw1; try dsimp only
  (repeat' split) <;> simp
@[simp] theorem closeSw1_cue : (closeSw1 s).cue = s.cue := by
  unfold closeSw1; try dsimp only
  (repeat' split) <;> simp
@[simp] theorem closeSw1_group : (closeSw1 s).group = s.group := by
  unfold closeSw1; try dsimp only
  (repeat' split) <;> simp
@[simp] theorem closeSw1_pll : (closeSw1 s).pll = s.pll := by
  unfold closeSw1; try dsimp only
  (repeat' split) <;> simp
@[simp] theorem closeSw1_peer : (closeSw1 s).peer = s.peer := by
  unfold closeSw1; try dsimp only
  (repeat' split) <;> simp
@[simp] theorem closeSw1_fault : (closeSw1 s).fault = s.fault := by
  unfold closeSw1; try dsimp only
  (repeat' split) <;> simp
@[simp] theorem closeSw1_synth : (closeSw1 s).synth = s.synth := by
  unfold closeSw1; try dsimp only
  (repeat' split) <;> simp
@[simp] theorem closeSw1_report : (closeSw1 s).report = s.report := by
  unfold closeSw1; try dsimp only
  (repeat' split) <;> simp
@[simp] theorem closeSw1_alert : (closeSw1 s).alert = s.alert := by
  unfold closeSw1; try dsimp only
  (repeat' split) <;> simp

@[simp] theorem takeDueClosing_pending : (takeDueClosing s).pending = s.pending := by
  unfold takeDueClosing; try dsimp only
  (repeat' split) <;> simp
@[simp] theorem takeDueClosing_state : (takeDueClosing s).state = s.state := by
  unfold takeDueClosing; try dsimp only
  (repeat' split) <;> simp
@[simp] theorem takeDueClosing_inReset : (takeDueClosing s).inReset = s.inReset := by
  unfold takeDueClosing; try dsimp only
  (repeat' split) <;> simp
@[simp] theorem takeDueClosing_setup : (takeDueClosing s).setup = s.setup := by
  unfold takeDueClosing; try dsimp only
  (repeat' split) <;> simp
@[simp] theorem takeDueClosing_straps : (takeDueClosing s).straps = s.straps := by
  unfold takeDueClosing; try dsimp only
  (repeat' split) <;> simp
@[simp] theorem takeDueClosing_lines : (takeDueClosing s).lines = s.lines := by
  unfold takeDueClosing; try dsimp only
  (repeat' split) <;> simp
@[simp] theorem takeDueClosing_port : (takeDueClosing s).port = s.port := by
  unfold takeDueClosing; try dsimp only
  (repeat' split) <;> simp
@[simp] theorem takeDueClosing_cue : (takeDueClosing s).cue = s.cue := by
  unfold takeDueClosing; try dsimp only
  (repeat' split) <;> simp
@[simp] theorem takeDueClosing_group : (takeDueClosing s).group = s.group := by
  unfold takeDueClosing; try dsimp only
  (repeat' split) <;> simp
@[simp] theorem takeDueClosing_pll : (takeDueClosing s).pll = s.pll := by
  unfold takeDueClosing; try dsimp only
  (repeat' split) <;> simp
@[simp] theorem takeDueClosing_peer : (takeDueClosing s).peer = s.peer := by
  unfold takeDueClosing; try dsimp only
  (repeat' split) <;> simp
@[simp] theorem takeDueClosing_fault : (takeDueClosing s).fault = s.fault := by
  unfold takeDueClosing; try dsimp only
  (repeat' split) <;> simp
@[simp] theorem takeDueClosing_synth : (takeDueClosing s).synth = s.synth := by
  unfold takeDueClosing; try dsimp only
  (repeat' split) <;> simp
@[simp] theorem takeDueClosing_report : (takeDueClosing s).report = s.report := by
  unfold takeDueClosing; try dsimp only
  (repeat' split) <;> simp
@[simp] theorem takeDueClosing_alert : (takeDueClosing s).alert = s.alert := by
  unfold takeDueClosing; try dsimp only
  (repeat' split) <;> simp

@[simp] theorem doSwitch_pending (r : SwitchRequest) : (doSwitch r s).pending = s.pending := by
  unfold doSwitch; try dsimp only
  (repeat' split) <;> simp
@[simp] theorem doSwitch_state (r : SwitchRequest) : (doSwitch r s).state = s.state := by
  unfold doSwitch; try dsimp only
  (repeat' split) <;> simp
@[simp] theorem doSwitch_inReset (r : SwitchRequest) : (doSwitch r s).inReset = s.inReset := by
  unfold doSwitch; try dsimp only
  (repeat' split) <;> simp
@[simp] theorem doSwitch_setup (r : SwitchRequest) : (doSwitch r s).setup = s.setup := by
  unfold doSwitch; try dsimp only
  (repeat' split) <;> simp
@[simp] theorem doSwitch_straps (r : SwitchRequest) : (doSwitch r s).straps = s.straps := by
  unfold doSwitch; try dsimp only
  (repeat' split) <;> simp
@[simp] theorem doSwitch_lines (r : SwitchRequest) : (doSwitch r s).lines = s.lines := by
  unfold doSwitch; try dsimp only
  (repeat' split) <;> simp
@[simp] theorem doSwitch_port (r : SwitchRequest) : (doSwitch r s).port = s.port := by
  unfold doSwitch; try dsimp only
  (repeat' split) <;> simp
@[simp] theorem doSwitch_cue (r : SwitchRequest) : (doSwitch r s).cue = s.cue := by
  unfold doSwitch; try dsimp only
  (repeat' split) <;> simp
@[simp] theorem doSwitch_group (r : SwitchRequest) : (doSwitch r s).group = s.group := by
  unfold doSwitch; try dsimp only
  (repeat' split) <;> simp
@[simp] theorem doSwitch_pll (r : SwitchRequest) : (doSwitch r s).pll = s.pll := by
  unfold doSwitch; try dsimp only
  (repeat' split) <;> simp
@[simp] theorem doSwitch_peer (r : SwitchRequest) : (doSwitch r s).peer = s.peer := by
  unfold doSwitch; try dsimp only
  (repeat' split) <;> simp
@[simp] theorem doSwitch_fault (r : SwitchRequest) : (doSwitch r s).fault = s.fault := by
  unfold doSwitch; try dsimp only
  (repeat' split) <;> simp
@[simp] theorem doSwitch_synth (r : SwitchRequest) : (doSwitch r s).synth = s.synth := by
  unfold doSwitch; try dsimp only
  (repeat' split) <;> simp
@[simp] theorem doSwitch_report (r : SwitchRequest) : (doSwitch r s).report = s.report := by
  unfold doSwitch; try dsimp only
  (repeat' split) <;> simp
@[simp] theorem doSwitch_alert (r : SwitchRequest) : (doSwitch r s).alert = s.alert := by
  unfold doSwitch; try dsimp only
  (repeat' split) <;> simp

@[simp] theorem stopSwitches_pending : (stopSwitches s).pending = s.pending := by
  unfold stopSwitches; try dsimp only
  (repeat' split) <;> simp
@[simp] theorem stopSwitches_state : (stopSwitches s).state = s.state := by
  unfold stopSwitches; try dsimp only
  (repeat' split) <;> simp
@[simp] theorem stopSwitches_inReset : (stopSwitches s).inReset = s.inReset := by
  unfold stopSwitches; try dsimp only
  (repeat' split) <;> simp
@[simp] theorem stopSwitches_setup : (stopSwitches s).setup = s.setup := by
  unfold stopSwitches; try dsimp only
  (repeat' split) <;> simp
@[simp] theorem stopSwitches_straps : (stopSwitches s).straps = s.straps := by
  unfold stopSwitches; try dsimp only
  (repeat' split) <;> simp
@[simp] theorem stopSwitches_lines : (stopSwitches s).lines = s.lines := by
  unfold stopSwitches; try dsimp only
  (repeat' split) <;> simp
@[simp] theorem stopSwitches_port : (stopSwitches s).port = s.port := by
  unfold stopSwitches; try dsimp only
  (repeat' split) <;> simp
@[simp] theorem stopSwitches_cue : (stopSwitches s).cue = s.cue := by
  unfold stopSwitches; try dsimp only
  (repeat' split) <;> simp
@[simp] theorem stopSwitches_group : (stopSwitches s).group = s.group := by
  unfold stopSwitches; try dsimp only
  (repeat' split) <;> simp
@[simp] theorem stopSwitches_pll : (stopSwitches s).pll = s.pll := by
  unfold stopSwitches; try dsimp only
  (repeat' split) <;> simp
@[simp] theorem stopSwitches_peer : (stopSwitches s).peer = s.peer := by
  unfold stopSwitches; try dsimp only
  (repeat' split) <;> simp
@[simp] theorem stopSwitches_fault : (stopSwitches s).fault = s.fault := by
  unfold stopSwitches; try dsimp only
  (repeat' split) <;> simp
@[simp] theorem stopSwitches_synth : (stopSwitches s).synth = s.synth := by
  unfold stopSwitches; try dsimp only
  (repeat' split) <;> simp
@[simp] theorem stopSwitches_report : (stopSwitches s).report = s.report := by
  unfold stopSwitches; try dsimp only
  (repeat' split) <;> simp
@[simp] theorem stopSwitches_alert : (stopSwitches s).alert = s.alert := by
  unfold stopSwitches; try dsimp only
  (repeat' split) <;> simp

@[simp] theorem requestStop_pending : (requestStop s).pending = s.pending := by
  unfold requestStop; try dsimp only
  (repeat' split) <;> simp
@[simp] theorem requestStop_state : (requestStop s).state = s.state := by
  unfold requestStop; try dsimp only
  (repeat' split) <;> simp
@[simp] theorem requestStop_inReset : (requestStop s).inReset = s.inReset := by
  unfold requestStop; try dsimp only
  (repeat' split) <;> simp
@[simp] theorem requestStop_setup : (requestStop s).setup = s.setup := by
  unfold requestStop; try dsimp only
  (repeat' split) <;> simp
@[simp] theorem requestStop_straps : (requestStop s).straps = s.straps := by
  unfold requestStop; try dsimp only
  (repeat' split) <;> simp
@[simp] theorem requestStop_lines : (requestStop s).lines = s.lines := by
  unfold requestStop; try dsimp only
  (repeat' split) <;> simp
@[simp] theorem requestStop_port : (requestStop s).port = s.port := by
  unfold requestStop; try dsimp only
  (repeat' split) <;> simp
@[simp] theorem requestStop_cue : (requestStop s).cue = s.cue := by
  unfold requestStop; try dsimp only
  (repeat' split) <;> simp
@[simp] theorem requestStop_group : (requestStop s).group = s.group := by
  unfold requestStop; try dsimp only
  (repeat' split) <;> simp
@[simp] theorem requestStop_pll : (requestStop s).pll = s.pll := by
  unfold requestStop; try dsimp only
  (repeat' split) <;> simp
@[simp] theorem requestStop_peer : (requestStop s).peer = s.peer := by
  unfold requestStop; try dsimp only
  (repeat' split) <;> simp
@[simp] theorem requestStop_fault : (requestStop s).fault = s.fault := by
  unfold requestStop; try dsimp only
  (repeat' split) <;> simp
@[simp] theorem requestStop_report : (requestStop s).report = s.report := by
  unfold requestStop; try dsimp only
  (repeat' split) <;> simp
@[simp] theorem requestStop_alert : (requestStop s).alert = s.alert := by
  unfold requestStop; try dsimp only
  (repeat' split) <;> simp

@[simp] theorem endCue_pending (o : CueOutcome) : (endCue o s).pending = s.pending := by
  unfold endCue; try dsimp only
  (repeat' split) <;> simp
@[simp] theorem endCue_state (o : CueOutcome) : (endCue o s).state = s.state := by
  unfold endCue; try dsimp only
  (repeat' split) <;> simp
@[simp] theorem endCue_inReset (o : CueOutcome) : (endCue o s).inReset = s.inReset := by
  unfold endCue; try dsimp only
  (repeat' split) <;> simp
@[simp] theorem endCue_setup (o : CueOutcome) : (endCue o s).setup = s.setup := by
  unfold endCue; try dsimp only
  (repeat' split) <;> simp
@[simp] theorem endCue_straps (o : CueOutcome) : (endCue o s).straps = s.straps := by
  unfold endCue; try dsimp only
  (repeat' split) <;> simp
@[simp] theorem endCue_lines (o : CueOutcome) : (endCue o s).lines = s.lines := by
  unfold endCue; try dsimp only
  (repeat' split) <;> simp
@[simp] theorem endCue_port (o : CueOutcome) : (endCue o s).port = s.port := by
  unfold endCue; try dsimp only
  (repeat' split) <;> simp
@[simp] theorem endCue_group (o : CueOutcome) : (endCue o s).group = s.group := by
  unfold endCue; try dsimp only
  (repeat' split) <;> simp
@[simp] theorem endCue_pll (o : CueOutcome) : (endCue o s).pll = s.pll := by
  unfold endCue; try dsimp only
  (repeat' split) <;> simp
@[simp] theorem endCue_peer (o : CueOutcome) : (endCue o s).peer = s.peer := by
  unfold endCue; try dsimp only
  (repeat' split) <;> simp
@[simp] theorem endCue_fault (o : CueOutcome) : (endCue o s).fault = s.fault := by
  unfold endCue; try dsimp only
  (repeat' split) <;> simp
@[simp] theorem endCue_synth (o : CueOutcome) : (endCue o s).synth = s.synth := by
  unfold endCue; try dsimp only
  (repeat' split) <;> simp
@[simp] theorem endCue_sw (o : CueOutcome) : (endCue o s).sw = s.sw := by
  unfold endCue; try dsimp only
  (repeat' split) <;> simp

@[simp] theorem supersede_pending : (supersede s).pending = s.pending := by
  unfold supersede; try dsimp only
  (repeat' split) <;> simp
@[simp] theorem supersede_state : (supersede s).state = s.state := by
  unfold supersede; try dsimp only
  (repeat' split) <;> simp
@[simp] theorem supersede_inReset : (supersede s).inReset = s.inReset := by
  unfold supersede; try dsimp only
  (repeat' split) <;> simp
@[simp] theorem supersede_setup : (supersede s).setup = s.setup := by
  unfold supersede; try dsimp only
  (repeat' split) <;> simp
@[simp] theorem supersede_straps : (supersede s).straps = s.straps := by
  unfold supersede; try dsimp only
  (repeat' split) <;> simp
@[simp] theorem supersede_lines : (supersede s).lines = s.lines := by
  unfold supersede; try dsimp only
  (repeat' split) <;> simp
@[simp] theorem supersede_port : (supersede s).port = s.port := by
  unfold supersede; try dsimp only
  (repeat' split) <;> simp
@[simp] theorem supersede_group : (supersede s).group = s.group := by
  unfold supersede; try dsimp only
  (repeat' split) <;> simp
@[simp] theorem supersede_pll : (supersede s).pll = s.pll := by
  unfold supersede; try dsimp only
  (repeat' split) <;> simp
@[simp] theorem supersede_peer : (supersede s).peer = s.peer := by
  unfold supersede; try dsimp only
  (repeat' split) <;> simp
@[simp] theorem supersede_fault : (supersede s).fault = s.fault := by
  unfold supersede; try dsimp only
  (repeat' split) <;> simp
@[simp] theorem supersede_sw : (supersede s).sw = s.sw := by
  unfold supersede; try dsimp only
  (repeat' split) <;> simp

@[simp] theorem activate_pending (b : Bool) : (activate b s).pending = s.pending := by
  unfold activate; try dsimp only
  (repeat' split) <;> simp
@[simp] theorem activate_state (b : Bool) : (activate b s).state = s.state := by
  unfold activate; try dsimp only
  (repeat' split) <;> simp
@[simp] theorem activate_inReset (b : Bool) : (activate b s).inReset = s.inReset := by
  unfold activate; try dsimp only
  (repeat' split) <;> simp
@[simp] theorem activate_setup (b : Bool) : (activate b s).setup = s.setup := by
  unfold activate; try dsimp only
  (repeat' split) <;> simp
@[simp] theorem activate_straps (b : Bool) : (activate b s).straps = s.straps := by
  unfold activate; try dsimp only
  (repeat' split) <;> simp
@[simp] theorem activate_lines (b : Bool) : (activate b s).lines = s.lines := by
  unfold activate; try dsimp only
  (repeat' split) <;> simp
@[simp] theorem activate_port (b : Bool) : (activate b s).port = s.port := by
  unfold activate; try dsimp only
  (repeat' split) <;> simp
@[simp] theorem activate_peer (b : Bool) : (activate b s).peer = s.peer := by
  unfold activate; try dsimp only
  (repeat' split) <;> simp
@[simp] theorem activate_fault (b : Bool) : (activate b s).fault = s.fault := by
  unfold activate; try dsimp only
  (repeat' split) <;> simp
@[simp] theorem activate_sw (b : Bool) : (activate b s).sw = s.sw := by
  unfold activate; try dsimp only
  (repeat' split) <;> simp

@[simp] theorem lookAtHead_pending (b : Bool) : (lookAtHead b s).pending = s.pending := by
  unfold lookAtHead; try dsimp only
  (repeat' split) <;> simp
@[simp] theorem lookAtHead_state (b : Bool) : (lookAtHead b s).state = s.state := by
  unfold lookAtHead; try dsimp only
  (repeat' split) <;> simp
@[simp] theorem lookAtHead_inReset (b : Bool) : (lookAtHead b s).inReset = s.inReset := by
  unfold lookAtHead; try dsimp only
  (repeat' split) <;> simp
@[simp] theorem lookAtHead_setup (b : Bool) : (lookAtHead b s).setup = s.setup := by
  unfold lookAtHead; try dsimp only
  (repeat' split) <;> simp
@[simp] theorem lookAtHead_straps (b : Bool) : (lookAtHead b s).straps = s.straps := by
  unfold lookAtHead; try dsimp only
  (repeat' split) <;> simp
@[simp] theorem lookAtHead_lines (b : Bool) : (lookAtHead b s).lines = s.lines := by
  unfold lookAtHead; try dsimp only
  (repeat' split) <;> simp
@[simp] theorem lookAtHead_port (b : Bool) : (lookAtHead b s).port = s.port := by
  unfold lookAtHead; try dsimp only
  (repeat' split) <;> simp
@[simp] theorem lookAtHead_peer (b : Bool) : (lookAtHead b s).peer = s.peer := by
  unfold lookAtHead; try dsimp only
  (repeat' split) <;> simp
@[simp] theorem lookAtHead_fault (b : Bool) : (lookAtHead b s).fault = s.fault := by
  unfold lookAtHead; try dsimp only
  (repeat' split) <;> simp
@[simp] theorem lookAtHead_sw (b : Bool) : (lookAtHead b s).sw = s.sw := by
  unfold lookAtHead; try dsimp only
  (repeat' split) <;> simp

@[simp] theorem driveGate_pending : (driveGate s).pending = s.pending := by
  unfold driveGate; try dsimp only
  (repeat' split) <;> simp
@[simp] theorem driveGate_state : (driveGate s).state = s.state := by
  unfold driveGate; try dsimp only
  (repeat' split) <;> simp
@[simp] theorem driveGate_inReset : (driveGate s).inReset = s.inReset := by
  unfold driveGate; try dsimp only
  (repeat' split) <;> simp
@[simp] theorem driveGate_setup : (driveGate s).setup = s.setup := by
  unfold driveGate; try dsimp only
  (repeat' split) <;> simp
@[simp] theorem driveGate_straps : (driveGate s).straps = s.straps := by
  unfold driveGate; try dsimp only
  (repeat' split) <;> simp
@[simp] theorem driveGate_lines : (driveGate s).lines = s.lines := by
  unfold driveGate; try dsimp only
  (repeat' split) <;> simp
@[simp] theorem driveGate_port : (driveGate s).port = s.port := by
  unfold driveGate; try dsimp only
  (repeat' split) <;> simp
@[simp] theorem driveGate_cue : (driveGate s).cue = s.cue := by
  unfold driveGate; try dsimp only
  (repeat' split) <;> simp
@[simp] theorem driveGate_pll : (driveGate s).pll = s.pll := by
  unfold driveGate; try dsimp only
  (repeat' split) <;> simp
@[simp] theorem driveGate_peer : (driveGate s).peer = s.peer := by
  unfold driveGate; try dsimp only
  (repeat' split) <;> simp
@[simp] theorem driveGate_fault : (driveGate s).fault = s.fault := by
  unfold driveGate; try dsimp only
  (repeat' split) <;> simp
@[simp] theorem driveGate_synth : (driveGate s).synth = s.synth := by
  unfold driveGate; try dsimp only
  (repeat' split) <;> simp
@[simp] theorem driveGate_sw : (driveGate s).sw = s.sw := by
  unfold driveGate; try dsimp only
  (repeat' split) <;> simp
@[simp] theorem driveGate_meas : (driveGate s).meas = s.meas := by
  unfold driveGate; try dsimp only
  (repeat' split) <;> simp
@[simp] theorem driveGate_report : (driveGate s).report = s.report := by
  unfold driveGate; try dsimp only
  (repeat' split) <;> simp
@[simp] theorem driveGate_alert : (driveGate s).alert = s.alert := by
  unfold driveGate; try dsimp only
  (repeat' split) <;> simp

@[simp] theorem judgeGate_pending : (judgeGate s).pending = s.pending := by
  unfold judgeGate; try dsimp only
  (repeat' split) <;> simp
@[simp] theorem judgeGate_state : (judgeGate s).state = s.state := by
  unfold judgeGate; try dsimp only
  (repeat' split) <;> simp
@[simp] theorem judgeGate_inReset : (judgeGate s).inReset = s.inReset := by
  unfold judgeGate; try dsimp only
  (repeat' split) <;> simp
@[simp] theorem judgeGate_setup : (judgeGate s).setup = s.setup := by
  unfold judgeGate; try dsimp only
  (repeat' split) <;> simp
@[simp] theorem judgeGate_straps : (judgeGate s).straps = s.straps := by
  unfold judgeGate; try dsimp only
  (repeat' split) <;> simp
@[simp] theorem judgeGate_lines : (judgeGate s).lines = s.lines := by
  unfold judgeGate; try dsimp only
  (repeat' split) <;> simp
@[simp] theorem judgeGate_port : (judgeGate s).port = s.port := by
  unfold judgeGate; try dsimp only
  (repeat' split) <;> simp
@[simp] theorem judgeGate_cue : (judgeGate s).cue = s.cue := by
  unfold judgeGate; try dsimp only
  (repeat' split) <;> simp
@[simp] theorem judgeGate_pll : (judgeGate s).pll = s.pll := by
  unfold judgeGate; try dsimp only
  (repeat' split) <;> simp
@[simp] theorem judgeGate_peer : (judgeGate s).peer = s.peer := by
  unfold judgeGate; try dsimp only
  (repeat' split) <;> simp
@[simp] theorem judgeGate_fault : (judgeGate s).fault = s.fault := by
  unfold judgeGate; try dsimp only
  (repeat' split) <;> simp
@[simp] theorem judgeGate_synth : (judgeGate s).synth = s.synth := by
  unfold judgeGate; try dsimp only
  (repeat' split) <;> simp
@[simp] theorem judgeGate_sw : (judgeGate s).sw = s.sw := by
  unfold judgeGate; try dsimp only
  (repeat' split) <;> simp
@[simp] theorem judgeGate_meas : (judgeGate s).meas = s.meas := by
  unfold judgeGate; try dsimp only
  (repeat' split) <;> simp
@[simp] theorem judgeGate_report : (judgeGate s).report = s.report := by
  unfold judgeGate; try dsimp only
  (repeat' split) <;> simp
@[simp] theorem judgeGate_alert : (judgeGate s).alert = s.alert := by
  unfold judgeGate; try dsimp only
  (repeat' split) <;> simp

@[simp] theorem flushQueue_pending : (flushQueue s).pending = s.pending := by
  unfold flushQueue; try dsimp only
  simp
@[simp] theorem flushQueue_state : (flushQueue s).state = s.state := by
  unfold flushQueue; try dsimp only
  simp
@[simp] theorem flushQueue_inReset : (flushQueue s).inReset = s.inReset := by
  unfold flushQueue; try dsimp only
  simp
@[simp] theorem flushQueue_setup : (flushQueue s).setup = s.setup := by
  unfold flushQueue; try dsimp only
  simp
@[simp] theorem flushQueue_straps : (flushQueue s).straps = s.straps := by
  unfold flushQueue; try dsimp only
  simp
@[simp] theorem flushQueue_lines : (flushQueue s).lines = s.lines := by
  unfold flushQueue; try dsimp only
  simp
@[simp] theorem flushQueue_port : (flushQueue s).port = s.port := by
  unfold flushQueue; try dsimp only
  simp
@[simp] theorem flushQueue_group : (flushQueue s).group = s.group := by
  unfold flushQueue; try dsimp only
  simp
@[simp] theorem flushQueue_pll : (flushQueue s).pll = s.pll := by
  unfold flushQueue; try dsimp only
  simp
@[simp] theorem flushQueue_peer : (flushQueue s).peer = s.peer := by
  unfold flushQueue; try dsimp only
  simp
@[simp] theorem flushQueue_fault : (flushQueue s).fault = s.fault := by
  unfold flushQueue; try dsimp only
  simp
@[simp] theorem flushQueue_synth : (flushQueue s).synth = s.synth := by
  unfold flushQueue; try dsimp only
  simp
@[simp] theorem flushQueue_sw : (flushQueue s).sw = s.sw := by
  unfold flushQueue; try dsimp only
  simp
@[simp] theorem flushQueue_meas : (flushQueue s).meas = s.meas := by
  unfold flushQueue; try dsimp only
  simp
@[simp] theorem flushQueue_report : (flushQueue s).report = s.report := by
  unfold flushQueue; try dsimp only
  simp

@[simp] theorem cutCue_pending : (cutCue s).pending = s.pending := by
  unfold cutCue; try dsimp only
  simp
@[simp] theorem cutCue_state : (cutCue s).state = s.state := by
  unfold cutCue; try dsimp only
  simp
@[simp] theorem cutCue_inReset : (cutCue s).inReset = s.inReset := by
  unfold cutCue; try dsimp only
  simp
@[simp] theorem cutCue_setup : (cutCue s).setup = s.setup := by
  unfold cutCue; try dsimp only
  simp
@[simp] theorem cutCue_straps : (cutCue s).straps = s.straps := by
  unfold cutCue; try dsimp only
  simp
@[simp] theorem cutCue_lines : (cutCue s).lines = s.lines := by
  unfold cutCue; try dsimp only
  simp
@[simp] theorem cutCue_port : (cutCue s).port = s.port := by
  unfold cutCue; try dsimp only
  simp
@[simp] theorem cutCue_group : (cutCue s).group = s.group := by
  unfold cutCue; try dsimp only
  simp
@[simp] theorem cutCue_peer : (cutCue s).peer = s.peer := by
  unfold cutCue; try dsimp only
  simp
@[simp] theorem cutCue_fault : (cutCue s).fault = s.fault := by
  unfold cutCue; try dsimp only
  simp
@[simp] theorem cutCue_sw : (cutCue s).sw = s.sw := by
  unfold cutCue; try dsimp only
  simp

@[simp] theorem offerRunEnd_pending (r : EndReason) : (offerRunEnd r s).pending = s.pending := by
  unfold offerRunEnd; try dsimp only
  simp
@[simp] theorem offerRunEnd_state (r : EndReason) : (offerRunEnd r s).state = s.state := by
  unfold offerRunEnd; try dsimp only
  simp
@[simp] theorem offerRunEnd_inReset (r : EndReason) : (offerRunEnd r s).inReset = s.inReset := by
  unfold offerRunEnd; try dsimp only
  simp
@[simp] theorem offerRunEnd_setup (r : EndReason) : (offerRunEnd r s).setup = s.setup := by
  unfold offerRunEnd; try dsimp only
  simp
@[simp] theorem offerRunEnd_straps (r : EndReason) : (offerRunEnd r s).straps = s.straps := by
  unfold offerRunEnd; try dsimp only
  simp
@[simp] theorem offerRunEnd_lines (r : EndReason) : (offerRunEnd r s).lines = s.lines := by
  unfold offerRunEnd; try dsimp only
  simp
@[simp] theorem offerRunEnd_port (r : EndReason) : (offerRunEnd r s).port = s.port := by
  unfold offerRunEnd; try dsimp only
  simp
@[simp] theorem offerRunEnd_cue (r : EndReason) : (offerRunEnd r s).cue = s.cue := by
  unfold offerRunEnd; try dsimp only
  simp
@[simp] theorem offerRunEnd_group (r : EndReason) : (offerRunEnd r s).group = s.group := by
  unfold offerRunEnd; try dsimp only
  simp
@[simp] theorem offerRunEnd_pll (r : EndReason) : (offerRunEnd r s).pll = s.pll := by
  unfold offerRunEnd; try dsimp only
  simp
@[simp] theorem offerRunEnd_peer (r : EndReason) : (offerRunEnd r s).peer = s.peer := by
  unfold offerRunEnd; try dsimp only
  simp
@[simp] theorem offerRunEnd_fault (r : EndReason) : (offerRunEnd r s).fault = s.fault := by
  unfold offerRunEnd; try dsimp only
  simp
@[simp] theorem offerRunEnd_synth (r : EndReason) : (offerRunEnd r s).synth = s.synth := by
  unfold offerRunEnd; try dsimp only
  simp
@[simp] theorem offerRunEnd_sw (r : EndReason) : (offerRunEnd r s).sw = s.sw := by
  unfold offerRunEnd; try dsimp only
  simp
@[simp] theorem offerRunEnd_meas (r : EndReason) : (offerRunEnd r s).meas = s.meas := by
  unfold offerRunEnd; try dsimp only
  simp

@[simp] theorem faultEntry_pending (c : FaultCause) : (faultEntry c s).pending = s.pending := by
  unfold faultEntry; try dsimp only
  (repeat' split) <;> simp
@[simp] theorem faultEntry_inReset (c : FaultCause) : (faultEntry c s).inReset = s.inReset := by
  unfold faultEntry; try dsimp only
  (repeat' split) <;> simp
@[simp] theorem faultEntry_setup (c : FaultCause) : (faultEntry c s).setup = s.setup := by
  unfold faultEntry; try dsimp only
  (repeat' split) <;> simp
@[simp] theorem faultEntry_straps (c : FaultCause) : (faultEntry c s).straps = s.straps := by
  unfold faultEntry; try dsimp only
  (repeat' split) <;> simp
@[simp] theorem faultEntry_lines (c : FaultCause) : (faultEntry c s).lines = s.lines := by
  unfold faultEntry; try dsimp only
  (repeat' split) <;> simp
@[simp] theorem faultEntry_port (c : FaultCause) : (faultEntry c s).port = s.port := by
  unfold faultEntry; try dsimp only
  (repeat' split) <;> simp

@[simp] theorem passCause_pending (c : FaultCause) : (passCause c s).pending = s.pending := by
  unfold passCause; try dsimp only
  (repeat' split) <;> simp
@[simp] theorem passCause_inReset (c : FaultCause) : (passCause c s).inReset = s.inReset := by
  unfold passCause; try dsimp only
  (repeat' split) <;> simp
@[simp] theorem passCause_setup (c : FaultCause) : (passCause c s).setup = s.setup := by
  unfold passCause; try dsimp only
  (repeat' split) <;> simp
@[simp] theorem passCause_straps (c : FaultCause) : (passCause c s).straps = s.straps := by
  unfold passCause; try dsimp only
  (repeat' split) <;> simp
@[simp] theorem passCause_lines (c : FaultCause) : (passCause c s).lines = s.lines := by
  unfold passCause; try dsimp only
  (repeat' split) <;> simp
@[simp] theorem passCause_port (c : FaultCause) : (passCause c s).port = s.port := by
  unfold passCause; try dsimp only
  (repeat' split) <;> simp

@[simp] theorem offerFaultRecord_pending : (offerFaultRecord s).pending = s.pending := by
  unfold offerFaultRecord; try dsimp only
  (repeat' split) <;> simp
@[simp] theorem offerFaultRecord_state : (offerFaultRecord s).state = s.state := by
  unfold offerFaultRecord; try dsimp only
  (repeat' split) <;> simp
@[simp] theorem offerFaultRecord_inReset : (offerFaultRecord s).inReset = s.inReset := by
  unfold offerFaultRecord; try dsimp only
  (repeat' split) <;> simp
@[simp] theorem offerFaultRecord_setup : (offerFaultRecord s).setup = s.setup := by
  unfold offerFaultRecord; try dsimp only
  (repeat' split) <;> simp
@[simp] theorem offerFaultRecord_straps : (offerFaultRecord s).straps = s.straps := by
  unfold offerFaultRecord; try dsimp only
  (repeat' split) <;> simp
@[simp] theorem offerFaultRecord_lines : (offerFaultRecord s).lines = s.lines := by
  unfold offerFaultRecord; try dsimp only
  (repeat' split) <;> simp
@[simp] theorem offerFaultRecord_port : (offerFaultRecord s).port = s.port := by
  unfold offerFaultRecord; try dsimp only
  (repeat' split) <;> simp
@[simp] theorem offerFaultRecord_cue : (offerFaultRecord s).cue = s.cue := by
  unfold offerFaultRecord; try dsimp only
  (repeat' split) <;> simp
@[simp] theorem offerFaultRecord_group : (offerFaultRecord s).group = s.group := by
  unfold offerFaultRecord; try dsimp only
  (repeat' split) <;> simp
@[simp] theorem offerFaultRecord_pll : (offerFaultRecord s).pll = s.pll := by
  unfold offerFaultRecord; try dsimp only
  (repeat' split) <;> simp
@[simp] theorem offerFaultRecord_peer : (offerFaultRecord s).peer = s.peer := by
  unfold offerFaultRecord; try dsimp only
  (repeat' split) <;> simp
@[simp] theorem offerFaultRecord_synth : (offerFaultRecord s).synth = s.synth := by
  unfold offerFaultRecord; try dsimp only
  (repeat' split) <;> simp
@[simp] theorem offerFaultRecord_sw : (offerFaultRecord s).sw = s.sw := by
  unfold offerFaultRecord; try dsimp only
  (repeat' split) <;> simp
@[simp] theorem offerFaultRecord_meas : (offerFaultRecord s).meas = s.meas := by
  unfold offerFaultRecord; try dsimp only
  (repeat' split) <;> simp

@[simp] theorem recoverIfHigh_pending : (recoverIfHigh s).pending = s.pending := by
  unfold recoverIfHigh; try dsimp only
  (repeat' split) <;> simp
@[simp] theorem recoverIfHigh_inReset : (recoverIfHigh s).inReset = s.inReset := by
  unfold recoverIfHigh; try dsimp only
  (repeat' split) <;> simp
@[simp] theorem recoverIfHigh_setup : (recoverIfHigh s).setup = s.setup := by
  unfold recoverIfHigh; try dsimp only
  (repeat' split) <;> simp
@[simp] theorem recoverIfHigh_straps : (recoverIfHigh s).straps = s.straps := by
  unfold recoverIfHigh; try dsimp only
  (repeat' split) <;> simp
@[simp] theorem recoverIfHigh_lines : (recoverIfHigh s).lines = s.lines := by
  unfold recoverIfHigh; try dsimp only
  (repeat' split) <;> simp
@[simp] theorem recoverIfHigh_port : (recoverIfHigh s).port = s.port := by
  unfold recoverIfHigh; try dsimp only
  (repeat' split) <;> simp
@[simp] theorem recoverIfHigh_cue : (recoverIfHigh s).cue = s.cue := by
  unfold recoverIfHigh; try dsimp only
  (repeat' split) <;> simp
@[simp] theorem recoverIfHigh_group : (recoverIfHigh s).group = s.group := by
  unfold recoverIfHigh; try dsimp only
  (repeat' split) <;> simp
@[simp] theorem recoverIfHigh_pll : (recoverIfHigh s).pll = s.pll := by
  unfold recoverIfHigh; try dsimp only
  (repeat' split) <;> simp
@[simp] theorem recoverIfHigh_peer : (recoverIfHigh s).peer = s.peer := by
  unfold recoverIfHigh; try dsimp only
  (repeat' split) <;> simp
@[simp] theorem recoverIfHigh_synth : (recoverIfHigh s).synth = s.synth := by
  unfold recoverIfHigh; try dsimp only
  (repeat' split) <;> simp
@[simp] theorem recoverIfHigh_sw : (recoverIfHigh s).sw = s.sw := by
  unfold recoverIfHigh; try dsimp only
  (repeat' split) <;> simp
@[simp] theorem recoverIfHigh_meas : (recoverIfHigh s).meas = s.meas := by
  unfold recoverIfHigh; try dsimp only
  (repeat' split) <;> simp
@[simp] theorem recoverIfHigh_report : (recoverIfHigh s).report = s.report := by
  unfold recoverIfHigh; try dsimp only
  (repeat' split) <;> simp
@[simp] theorem recoverIfHigh_alert : (recoverIfHigh s).alert = s.alert := by
  unfold recoverIfHigh; try dsimp only
  (repeat' split) <;> simp

@[simp] theorem closeRun_pending : (closeRun s).pending = s.pending := by
  unfold closeRun; try dsimp only
  simp
@[simp] theorem closeRun_inReset : (closeRun s).inReset = s.inReset := by
  unfold closeRun; try dsimp only
  simp
@[simp] theorem closeRun_setup : (closeRun s).setup = s.setup := by
  unfold closeRun; try dsimp only
  simp
@[simp] theorem closeRun_straps : (closeRun s).straps = s.straps := by
  unfold closeRun; try dsimp only
  simp
@[simp] theorem closeRun_lines : (closeRun s).lines = s.lines := by
  unfold closeRun; try dsimp only
  simp
@[simp] theorem closeRun_port : (closeRun s).port = s.port := by
  unfold closeRun; try dsimp only
  simp
@[simp] theorem closeRun_fault : (closeRun s).fault = s.fault := by
  unfold closeRun; try dsimp only
  simp
@[simp] theorem closeRun_synth : (closeRun s).synth = s.synth := by
  unfold closeRun; try dsimp only
  simp
@[simp] theorem closeRun_sw : (closeRun s).sw = s.sw := by
  unfold closeRun; try dsimp only
  simp

@[simp] theorem refuse_pending (r : Refused) : (refuse r s).pending = s.pending := by
  unfold refuse; try dsimp only
  simp
@[simp] theorem refuse_state (r : Refused) : (refuse r s).state = s.state := by
  unfold refuse; try dsimp only
  simp
@[simp] theorem refuse_inReset (r : Refused) : (refuse r s).inReset = s.inReset := by
  unfold refuse; try dsimp only
  simp
@[simp] theorem refuse_setup (r : Refused) : (refuse r s).setup = s.setup := by
  unfold refuse; try dsimp only
  simp
@[simp] theorem refuse_straps (r : Refused) : (refuse r s).straps = s.straps := by
  unfold refuse; try dsimp only
  simp
@[simp] theorem refuse_lines (r : Refused) : (refuse r s).lines = s.lines := by
  unfold refuse; try dsimp only
  simp
@[simp] theorem refuse_cue (r : Refused) : (refuse r s).cue = s.cue := by
  unfold refuse; try dsimp only
  simp
@[simp] theorem refuse_group (r : Refused) : (refuse r s).group = s.group := by
  unfold refuse; try dsimp only
  simp
@[simp] theorem refuse_pll (r : Refused) : (refuse r s).pll = s.pll := by
  unfold refuse; try dsimp only
  simp
@[simp] theorem refuse_peer (r : Refused) : (refuse r s).peer = s.peer := by
  unfold refuse; try dsimp only
  simp
@[simp] theorem refuse_fault (r : Refused) : (refuse r s).fault = s.fault := by
  unfold refuse; try dsimp only
  simp
@[simp] theorem refuse_synth (r : Refused) : (refuse r s).synth = s.synth := by
  unfold refuse; try dsimp only
  simp
@[simp] theorem refuse_sw (r : Refused) : (refuse r s).sw = s.sw := by
  unfold refuse; try dsimp only
  simp
@[simp] theorem refuse_meas (r : Refused) : (refuse r s).meas = s.meas := by
  unfold refuse; try dsimp only
  simp
@[simp] theorem refuse_report (r : Refused) : (refuse r s).report = s.report := by
  unfold refuse; try dsimp only
  simp
@[simp] theorem refuse_alert (r : Refused) : (refuse r s).alert = s.alert := by
  unfold refuse; try dsimp only
  simp

@[simp] theorem countCut_pending : (countCut s).pending = s.pending := by
  unfold countCut; try dsimp only
  simp
@[simp] theorem countCut_state : (countCut s).state = s.state := by
  unfold countCut; try dsimp only
  simp
@[simp] theorem countCut_inReset : (countCut s).inReset = s.inReset := by
  unfold countCut; try dsimp only
  simp
@[simp] theorem countCut_setup : (countCut s).setup = s.setup := by
  unfold countCut; try dsimp only
  simp
@[simp] theorem countCut_straps : (countCut s).straps = s.straps := by
  unfold countCut; try dsimp only
  simp
@[simp] theorem countCut_lines : (countCut s).lines = s.lines := by
  unfold countCut; try dsimp only
  simp
@[simp] theorem countCut_cue : (countCut s).cue = s.cue := by
  unfold countCut; try dsimp only
  simp
@[simp] theorem countCut_group : (countCut s).group = s.group := by
  unfold countCut; try dsimp only
  simp
@[simp] theorem countCut_pll : (countCut s).pll = s.pll := by
  unfold countCut; try dsimp only
  simp
@[simp] theorem countCut_peer : (countCut s).peer = s.peer := by
  unfold countCut; try dsimp only
  simp
@[simp] theorem countCut_fault : (countCut s).fault = s.fault := by
  unfold countCut; try dsimp only
  simp
@[simp] theorem countCut_synth : (countCut s).synth = s.synth := by
  unfold countCut; try dsimp only
  simp
@[simp] theorem countCut_sw : (countCut s).sw = s.sw := by
  unfold countCut; try dsimp only
  simp
@[simp] theorem countCut_meas : (countCut s).meas = s.meas := by
  unfold countCut; try dsimp only
  simp
@[simp] theorem countCut_report : (countCut s).report = s.report := by
  unfold countCut; try dsimp only
  simp

@[simp] theorem cutReply_pending : (cutReply s).pending = s.pending := by
  unfold cutReply; try dsimp only
  (repeat' split) <;> simp
@[simp] theorem cutReply_state : (cutReply s).state = s.state := by
  unfold cutReply; try dsimp only
  (repeat' split) <;> simp
@[simp] theorem cutReply_inReset : (cutReply s).inReset = s.inReset := by
  unfold cutReply; try dsimp only
  (repeat' split) <;> simp
@[simp] theorem cutReply_setup : (cutReply s).setup = s.setup := by
  unfold cutReply; try dsimp only
  (repeat' split) <;> simp
@[simp] theorem cutReply_straps : (cutReply s).straps = s.straps := by
  unfold cutReply; try dsimp only
  (repeat' split) <;> simp
@[simp] theorem cutReply_lines : (cutReply s).lines = s.lines := by
  unfold cutReply; try dsimp only
  (repeat' split) <;> simp
@[simp] theorem cutReply_cue : (cutReply s).cue = s.cue := by
  unfold cutReply; try dsimp only
  (repeat' split) <;> simp
@[simp] theorem cutReply_group : (cutReply s).group = s.group := by
  unfold cutReply; try dsimp only
  (repeat' split) <;> simp
@[simp] theorem cutReply_pll : (cutReply s).pll = s.pll := by
  unfold cutReply; try dsimp only
  (repeat' split) <;> simp
@[simp] theorem cutReply_peer : (cutReply s).peer = s.peer := by
  unfold cutReply; try dsimp only
  (repeat' split) <;> simp
@[simp] theorem cutReply_fault : (cutReply s).fault = s.fault := by
  unfold cutReply; try dsimp only
  (repeat' split) <;> simp
@[simp] theorem cutReply_synth : (cutReply s).synth = s.synth := by
  unfold cutReply; try dsimp only
  (repeat' split) <;> simp
@[simp] theorem cutReply_sw : (cutReply s).sw = s.sw := by
  unfold cutReply; try dsimp only
  (repeat' split) <;> simp
@[simp] theorem cutReply_meas : (cutReply s).meas = s.meas := by
  unfold cutReply; try dsimp only
  (repeat' split) <;> simp
@[simp] theorem cutReply_report : (cutReply s).report = s.report := by
  unfold cutReply; try dsimp only
  (repeat' split) <;> simp

@[simp] theorem openFrame_pending : (openFrame s).pending = s.pending := by
  unfold openFrame; simp
@[simp] theorem openFrame_state : (openFrame s).state = s.state := by
  unfold openFrame; simp
@[simp] theorem openFrame_inReset : (openFrame s).inReset = s.inReset := by
  unfold openFrame; simp
@[simp] theorem openFrame_setup : (openFrame s).setup = s.setup := by
  unfold openFrame; simp
@[simp] theorem openFrame_straps : (openFrame s).straps = s.straps := by
  unfold openFrame; simp
@[simp] theorem openFrame_lines : (openFrame s).lines = s.lines := by
  unfold openFrame; simp
@[simp] theorem openFrame_cue : (openFrame s).cue = s.cue := by
  unfold openFrame; simp
@[simp] theorem openFrame_group : (openFrame s).group = s.group := by
  unfold openFrame; simp
@[simp] theorem openFrame_pll : (openFrame s).pll = s.pll := by
  unfold openFrame; simp
@[simp] theorem openFrame_peer : (openFrame s).peer = s.peer := by
  unfold openFrame; simp
@[simp] theorem openFrame_fault : (openFrame s).fault = s.fault := by
  unfold openFrame; simp
@[simp] theorem openFrame_synth : (openFrame s).synth = s.synth := by
  unfold openFrame; simp
@[simp] theorem openFrame_sw : (openFrame s).sw = s.sw := by
  unfold openFrame; simp
@[simp] theorem openFrame_meas : (openFrame s).meas = s.meas := by
  unfold openFrame; simp
@[simp] theorem openFrame_report : (openFrame s).report = s.report := by
  unfold openFrame; simp

@[simp] theorem beginFrame_pending : (beginFrame s).pending = s.pending := by
  unfold beginFrame; try dsimp only
  (repeat' split) <;> simp
@[simp] theorem beginFrame_state : (beginFrame s).state = s.state := by
  unfold beginFrame; try dsimp only
  (repeat' split) <;> simp
@[simp] theorem beginFrame_inReset : (beginFrame s).inReset = s.inReset := by
  unfold beginFrame; try dsimp only
  (repeat' split) <;> simp
@[simp] theorem beginFrame_setup : (beginFrame s).setup = s.setup := by
  unfold beginFrame; try dsimp only
  (repeat' split) <;> simp
@[simp] theorem beginFrame_straps : (beginFrame s).straps = s.straps := by
  unfold beginFrame; try dsimp only
  (repeat' split) <;> simp
@[simp] theorem beginFrame_lines : (beginFrame s).lines = s.lines := by
  unfold beginFrame; try dsimp only
  (repeat' split) <;> simp
@[simp] theorem beginFrame_port : (beginFrame s).port = s.port := by
  unfold beginFrame; try dsimp only
  (repeat' split) <;> simp
@[simp] theorem beginFrame_cue : (beginFrame s).cue = s.cue := by
  unfold beginFrame; try dsimp only
  (repeat' split) <;> simp
@[simp] theorem beginFrame_group : (beginFrame s).group = s.group := by
  unfold beginFrame; try dsimp only
  (repeat' split) <;> simp
@[simp] theorem beginFrame_pll : (beginFrame s).pll = s.pll := by
  unfold beginFrame; try dsimp only
  (repeat' split) <;> simp
@[simp] theorem beginFrame_fault : (beginFrame s).fault = s.fault := by
  unfold beginFrame; try dsimp only
  (repeat' split) <;> simp
@[simp] theorem beginFrame_synth : (beginFrame s).synth = s.synth := by
  unfold beginFrame; try dsimp only
  (repeat' split) <;> simp
@[simp] theorem beginFrame_sw : (beginFrame s).sw = s.sw := by
  unfold beginFrame; try dsimp only
  (repeat' split) <;> simp
@[simp] theorem beginFrame_meas : (beginFrame s).meas = s.meas := by
  unfold beginFrame; try dsimp only
  (repeat' split) <;> simp
@[simp] theorem beginFrame_report : (beginFrame s).report = s.report := by
  unfold beginFrame; try dsimp only
  (repeat' split) <;> simp
@[simp] theorem beginFrame_alert : (beginFrame s).alert = s.alert := by
  unfold beginFrame; try dsimp only
  (repeat' split) <;> simp

@[simp] theorem sendWord_pending : (sendWord s).pending = s.pending := by
  unfold sendWord; try dsimp only
  (repeat' split) <;> simp
@[simp] theorem sendWord_state : (sendWord s).state = s.state := by
  unfold sendWord; try dsimp only
  (repeat' split) <;> simp
@[simp] theorem sendWord_inReset : (sendWord s).inReset = s.inReset := by
  unfold sendWord; try dsimp only
  (repeat' split) <;> simp
@[simp] theorem sendWord_setup : (sendWord s).setup = s.setup := by
  unfold sendWord; try dsimp only
  (repeat' split) <;> simp
@[simp] theorem sendWord_straps : (sendWord s).straps = s.straps := by
  unfold sendWord; try dsimp only
  (repeat' split) <;> simp
@[simp] theorem sendWord_lines : (sendWord s).lines = s.lines := by
  unfold sendWord; try dsimp only
  (repeat' split) <;> simp
@[simp] theorem sendWord_port : (sendWord s).port = s.port := by
  unfold sendWord; try dsimp only
  (repeat' split) <;> simp
@[simp] theorem sendWord_cue : (sendWord s).cue = s.cue := by
  unfold sendWord; try dsimp only
  (repeat' split) <;> simp
@[simp] theorem sendWord_group : (sendWord s).group = s.group := by
  unfold sendWord; try dsimp only
  (repeat' split) <;> simp
@[simp] theorem sendWord_pll : (sendWord s).pll = s.pll := by
  unfold sendWord; try dsimp only
  (repeat' split) <;> simp
@[simp] theorem sendWord_peer : (sendWord s).peer = s.peer := by
  unfold sendWord; try dsimp only
  (repeat' split) <;> simp
@[simp] theorem sendWord_fault : (sendWord s).fault = s.fault := by
  unfold sendWord; try dsimp only
  (repeat' split) <;> simp
@[simp] theorem sendWord_sw : (sendWord s).sw = s.sw := by
  unfold sendWord; try dsimp only
  (repeat' split) <;> simp
@[simp] theorem sendWord_meas : (sendWord s).meas = s.meas := by
  unfold sendWord; try dsimp only
  (repeat' split) <;> simp
@[simp] theorem sendWord_report : (sendWord s).report = s.report := by
  unfold sendWord; try dsimp only
  (repeat' split) <;> simp
@[simp] theorem sendWord_alert : (sendWord s).alert = s.alert := by
  unfold sendWord; try dsimp only
  (repeat' split) <;> simp

@[simp] theorem finishWord_pending : (finishWord s).pending = s.pending := by
  unfold finishWord; try dsimp only
  (repeat' split) <;> simp
@[simp] theorem finishWord_state : (finishWord s).state = s.state := by
  unfold finishWord; try dsimp only
  (repeat' split) <;> simp
@[simp] theorem finishWord_inReset : (finishWord s).inReset = s.inReset := by
  unfold finishWord; try dsimp only
  (repeat' split) <;> simp
@[simp] theorem finishWord_setup : (finishWord s).setup = s.setup := by
  unfold finishWord; try dsimp only
  (repeat' split) <;> simp
@[simp] theorem finishWord_straps : (finishWord s).straps = s.straps := by
  unfold finishWord; try dsimp only
  (repeat' split) <;> simp
@[simp] theorem finishWord_lines : (finishWord s).lines = s.lines := by
  unfold finishWord; try dsimp only
  (repeat' split) <;> simp
@[simp] theorem finishWord_port : (finishWord s).port = s.port := by
  unfold finishWord; try dsimp only
  (repeat' split) <;> simp
@[simp] theorem finishWord_cue : (finishWord s).cue = s.cue := by
  unfold finishWord; try dsimp only
  (repeat' split) <;> simp
@[simp] theorem finishWord_group : (finishWord s).group = s.group := by
  unfold finishWord; try dsimp only
  (repeat' split) <;> simp
@[simp] theorem finishWord_pll : (finishWord s).pll = s.pll := by
  unfold finishWord; try dsimp only
  (repeat' split) <;> simp
@[simp] theorem finishWord_peer : (finishWord s).peer = s.peer := by
  unfold finishWord; try dsimp only
  (repeat' split) <;> simp
@[simp] theorem finishWord_fault : (finishWord s).fault = s.fault := by
  unfold finishWord; try dsimp only
  (repeat' split) <;> simp
@[simp] theorem finishWord_sw : (finishWord s).sw = s.sw := by
  unfold finishWord; try dsimp only
  (repeat' split) <;> simp
@[simp] theorem finishWord_meas : (finishWord s).meas = s.meas := by
  unfold finishWord; try dsimp only
  (repeat' split) <;> simp
@[simp] theorem finishWord_report : (finishWord s).report = s.report := by
  unfold finishWord; try dsimp only
  (repeat' split) <;> simp
@[simp] theorem finishWord_alert : (finishWord s).alert = s.alert := by
  unfold finishWord; try dsimp only
  (repeat' split) <;> simp

@[simp] theorem afterFlush_pending : (afterFlush s).pending = s.pending := by
  unfold afterFlush; try dsimp only
  simp
@[simp] theorem afterFlush_state : (afterFlush s).state = s.state := by
  unfold afterFlush; try dsimp only
  simp
@[simp] theorem afterFlush_inReset : (afterFlush s).inReset = s.inReset := by
  unfold afterFlush; try dsimp only
  simp
@[simp] theorem afterFlush_setup : (afterFlush s).setup = s.setup := by
  unfold afterFlush; try dsimp only
  simp
@[simp] theorem afterFlush_straps : (afterFlush s).straps = s.straps := by
  unfold afterFlush; try dsimp only
  simp
@[simp] theorem afterFlush_lines : (afterFlush s).lines = s.lines := by
  unfold afterFlush; try dsimp only
  simp
@[simp] theorem afterFlush_port : (afterFlush s).port = s.port := by
  unfold afterFlush; try dsimp only
  simp
@[simp] theorem afterFlush_cue : (afterFlush s).cue = s.cue := by
  unfold afterFlush; try dsimp only
  simp
@[simp] theorem afterFlush_pll : (afterFlush s).pll = s.pll := by
  unfold afterFlush; try dsimp only
  simp
@[simp] theorem afterFlush_peer : (afterFlush s).peer = s.peer := by
  unfold afterFlush; try dsimp only
  simp
@[simp] theorem afterFlush_fault : (afterFlush s).fault = s.fault := by
  unfold afterFlush; try dsimp only
  simp
@[simp] theorem afterFlush_synth : (afterFlush s).synth = s.synth := by
  unfold afterFlush; try dsimp only
  simp
@[simp] theorem afterFlush_sw : (afterFlush s).sw = s.sw := by
  unfold afterFlush; try dsimp only
  simp
@[simp] theorem afterFlush_meas : (afterFlush s).meas = s.meas := by
  unfold afterFlush; try dsimp only
  simp
@[simp] theorem afterFlush_report : (afterFlush s).report = s.report := by
  unfold afterFlush; try dsimp only
  simp

@[simp] theorem stepPhase_pending (d : Int) : (stepPhase d s).pending = s.pending := by
  unfold stepPhase; try dsimp only
  (repeat' split) <;> simp
@[simp] theorem stepPhase_state (d : Int) : (stepPhase d s).state = s.state := by
  unfold stepPhase; try dsimp only
  (repeat' split) <;> simp
@[simp] theorem stepPhase_inReset (d : Int) : (stepPhase d s).inReset = s.inReset := by
  unfold stepPhase; try dsimp only
  (repeat' split) <;> simp
@[simp] theorem stepPhase_setup (d : Int) : (stepPhase d s).setup = s.setup := by
  unfold stepPhase; try dsimp only
  (repeat' split) <;> simp
@[simp] theorem stepPhase_straps (d : Int) : (stepPhase d s).straps = s.straps := by
  unfold stepPhase; try dsimp only
  (repeat' split) <;> simp
@[simp] theorem stepPhase_lines (d : Int) : (stepPhase d s).lines = s.lines := by
  unfold stepPhase; try dsimp only
  (repeat' split) <;> simp
@[simp] theorem stepPhase_port (d : Int) : (stepPhase d s).port = s.port := by
  unfold stepPhase; try dsimp only
  (repeat' split) <;> simp
@[simp] theorem stepPhase_cue (d : Int) : (stepPhase d s).cue = s.cue := by
  unfold stepPhase; try dsimp only
  (repeat' split) <;> simp
@[simp] theorem stepPhase_group (d : Int) : (stepPhase d s).group = s.group := by
  unfold stepPhase; try dsimp only
  (repeat' split) <;> simp
@[simp] theorem stepPhase_pll (d : Int) : (stepPhase d s).pll = s.pll := by
  unfold stepPhase; try dsimp only
  (repeat' split) <;> simp
@[simp] theorem stepPhase_peer (d : Int) : (stepPhase d s).peer = s.peer := by
  unfold stepPhase; try dsimp only
  (repeat' split) <;> simp
@[simp] theorem stepPhase_fault (d : Int) : (stepPhase d s).fault = s.fault := by
  unfold stepPhase; try dsimp only
  (repeat' split) <;> simp
@[simp] theorem stepPhase_sw (d : Int) : (stepPhase d s).sw = s.sw := by
  unfold stepPhase; try dsimp only
  (repeat' split) <;> simp
@[simp] theorem stepPhase_report (d : Int) : (stepPhase d s).report = s.report := by
  unfold stepPhase; try dsimp only
  (repeat' split) <;> simp
@[simp] theorem stepPhase_alert (d : Int) : (stepPhase d s).alert = s.alert := by
  unfold stepPhase; try dsimp only
  (repeat' split) <;> simp

@[simp] theorem startSwitches_pending (c : Cue) : (startSwitches c s).pending = s.pending := by
  unfold startSwitches; try dsimp only
  (repeat' split) <;> simp
@[simp] theorem startSwitches_state (c : Cue) : (startSwitches c s).state = s.state := by
  unfold startSwitches; try dsimp only
  (repeat' split) <;> simp
@[simp] theorem startSwitches_inReset (c : Cue) : (startSwitches c s).inReset = s.inReset := by
  unfold startSwitches; try dsimp only
  (repeat' split) <;> simp
@[simp] theorem startSwitches_setup (c : Cue) : (startSwitches c s).setup = s.setup := by
  unfold startSwitches; try dsimp only
  (repeat' split) <;> simp
@[simp] theorem startSwitches_straps (c : Cue) : (startSwitches c s).straps = s.straps := by
  unfold startSwitches; try dsimp only
  (repeat' split) <;> simp
@[simp] theorem startSwitches_lines (c : Cue) : (startSwitches c s).lines = s.lines := by
  unfold startSwitches; try dsimp only
  (repeat' split) <;> simp
@[simp] theorem startSwitches_port (c : Cue) : (startSwitches c s).port = s.port := by
  unfold startSwitches; try dsimp only
  (repeat' split) <;> simp
@[simp] theorem startSwitches_group (c : Cue) : (startSwitches c s).group = s.group := by
  unfold startSwitches; try dsimp only
  (repeat' split) <;> simp
@[simp] theorem startSwitches_pll (c : Cue) : (startSwitches c s).pll = s.pll := by
  unfold startSwitches; try dsimp only
  (repeat' split) <;> simp
@[simp] theorem startSwitches_peer (c : Cue) : (startSwitches c s).peer = s.peer := by
  unfold startSwitches; try dsimp only
  (repeat' split) <;> simp
@[simp] theorem startSwitches_fault (c : Cue) : (startSwitches c s).fault = s.fault := by
  unfold startSwitches; try dsimp only
  (repeat' split) <;> simp
@[simp] theorem startSwitches_synth (c : Cue) : (startSwitches c s).synth = s.synth := by
  unfold startSwitches; try dsimp only
  (repeat' split) <;> simp
@[simp] theorem startSwitches_report (c : Cue) : (startSwitches c s).report = s.report := by
  unfold startSwitches; try dsimp only
  (repeat' split) <;> simp
@[simp] theorem startSwitches_alert (c : Cue) : (startSwitches c s).alert = s.alert := by
  unfold startSwitches; try dsimp only
  (repeat' split) <;> simp

@[simp] theorem startRequests_pending (c : Cue) : (startRequests c s).pending = s.pending := by
  unfold startRequests; try dsimp only
  (repeat' split) <;> simp
@[simp] theorem startRequests_state (c : Cue) : (startRequests c s).state = s.state := by
  unfold startRequests; try dsimp only
  (repeat' split) <;> simp
@[simp] theorem startRequests_inReset (c : Cue) : (startRequests c s).inReset = s.inReset := by
  unfold startRequests; try dsimp only
  (repeat' split) <;> simp
@[simp] theorem startRequests_setup (c : Cue) : (startRequests c s).setup = s.setup := by
  unfold startRequests; try dsimp only
  (repeat' split) <;> simp
@[simp] theorem startRequests_straps (c : Cue) : (startRequests c s).straps = s.straps := by
  unfold startRequests; try dsimp only
  (repeat' split) <;> simp
@[simp] theorem startRequests_lines (c : Cue) : (startRequests c s).lines = s.lines := by
  unfold startRequests; try dsimp only
  (repeat' split) <;> simp
@[simp] theorem startRequests_port (c : Cue) : (startRequests c s).port = s.port := by
  unfold startRequests; try dsimp only
  (repeat' split) <;> simp
@[simp] theorem startRequests_group (c : Cue) : (startRequests c s).group = s.group := by
  unfold startRequests; try dsimp only
  (repeat' split) <;> simp
@[simp] theorem startRequests_pll (c : Cue) : (startRequests c s).pll = s.pll := by
  unfold startRequests; try dsimp only
  (repeat' split) <;> simp
@[simp] theorem startRequests_peer (c : Cue) : (startRequests c s).peer = s.peer := by
  unfold startRequests; try dsimp only
  (repeat' split) <;> simp
@[simp] theorem startRequests_fault (c : Cue) : (startRequests c s).fault = s.fault := by
  unfold startRequests; try dsimp only
  (repeat' split) <;> simp
@[simp] theorem startRequests_report (c : Cue) : (startRequests c s).report = s.report := by
  unfold startRequests; try dsimp only
  (repeat' split) <;> simp
@[simp] theorem startRequests_alert (c : Cue) : (startRequests c s).alert = s.alert := by
  unfold startRequests; try dsimp only
  (repeat' split) <;> simp

@[simp] theorem beginCue_pending (a : ActiveCue) : (beginCue a s).pending = s.pending := by
  unfold beginCue; try dsimp only
  (repeat' split) <;> simp
@[simp] theorem beginCue_state (a : ActiveCue) : (beginCue a s).state = s.state := by
  unfold beginCue; try dsimp only
  (repeat' split) <;> simp
@[simp] theorem beginCue_inReset (a : ActiveCue) : (beginCue a s).inReset = s.inReset := by
  unfold beginCue; try dsimp only
  (repeat' split) <;> simp
@[simp] theorem beginCue_setup (a : ActiveCue) : (beginCue a s).setup = s.setup := by
  unfold beginCue; try dsimp only
  (repeat' split) <;> simp
@[simp] theorem beginCue_straps (a : ActiveCue) : (beginCue a s).straps = s.straps := by
  unfold beginCue; try dsimp only
  (repeat' split) <;> simp
@[simp] theorem beginCue_lines (a : ActiveCue) : (beginCue a s).lines = s.lines := by
  unfold beginCue; try dsimp only
  (repeat' split) <;> simp
@[simp] theorem beginCue_port (a : ActiveCue) : (beginCue a s).port = s.port := by
  unfold beginCue; try dsimp only
  (repeat' split) <;> simp
@[simp] theorem beginCue_peer (a : ActiveCue) : (beginCue a s).peer = s.peer := by
  unfold beginCue; try dsimp only
  (repeat' split) <;> simp
@[simp] theorem beginCue_fault (a : ActiveCue) : (beginCue a s).fault = s.fault := by
  unfold beginCue; try dsimp only
  (repeat' split) <;> simp

@[simp] theorem startCue_pending : (startCue s).pending = s.pending := by
  unfold startCue; try dsimp only
  (repeat' split) <;> simp
@[simp] theorem startCue_state : (startCue s).state = s.state := by
  unfold startCue; try dsimp only
  (repeat' split) <;> simp
@[simp] theorem startCue_inReset : (startCue s).inReset = s.inReset := by
  unfold startCue; try dsimp only
  (repeat' split) <;> simp
@[simp] theorem startCue_setup : (startCue s).setup = s.setup := by
  unfold startCue; try dsimp only
  (repeat' split) <;> simp
@[simp] theorem startCue_straps : (startCue s).straps = s.straps := by
  unfold startCue; try dsimp only
  (repeat' split) <;> simp
@[simp] theorem startCue_lines : (startCue s).lines = s.lines := by
  unfold startCue; try dsimp only
  (repeat' split) <;> simp
@[simp] theorem startCue_port : (startCue s).port = s.port := by
  unfold startCue; try dsimp only
  (repeat' split) <;> simp
@[simp] theorem startCue_peer : (startCue s).peer = s.peer := by
  unfold startCue; try dsimp only
  (repeat' split) <;> simp
@[simp] theorem startCue_fault : (startCue s).fault = s.fault := by
  unfold startCue; try dsimp only
  (repeat' split) <;> simp

@[simp] theorem endGap_pending (m : Option SwitchMode) : (endGap m s).pending = s.pending := by
  unfold endGap; try dsimp only
  (repeat' split) <;> simp
@[simp] theorem endGap_state (m : Option SwitchMode) : (endGap m s).state = s.state := by
  unfold endGap; try dsimp only
  (repeat' split) <;> simp
@[simp] theorem endGap_inReset (m : Option SwitchMode) : (endGap m s).inReset = s.inReset := by
  unfold endGap; try dsimp only
  (repeat' split) <;> simp
@[simp] theorem endGap_setup (m : Option SwitchMode) : (endGap m s).setup = s.setup := by
  unfold endGap; try dsimp only
  (repeat' split) <;> simp
@[simp] theorem endGap_straps (m : Option SwitchMode) : (endGap m s).straps = s.straps := by
  unfold endGap; try dsimp only
  (repeat' split) <;> simp
@[simp] theorem endGap_lines (m : Option SwitchMode) : (endGap m s).lines = s.lines := by
  unfold endGap; try dsimp only
  (repeat' split) <;> simp
@[simp] theorem endGap_port (m : Option SwitchMode) : (endGap m s).port = s.port := by
  unfold endGap; try dsimp only
  (repeat' split) <;> simp
@[simp] theorem endGap_group (m : Option SwitchMode) : (endGap m s).group = s.group := by
  unfold endGap; try dsimp only
  (repeat' split) <;> simp
@[simp] theorem endGap_pll (m : Option SwitchMode) : (endGap m s).pll = s.pll := by
  unfold endGap; try dsimp only
  (repeat' split) <;> simp
@[simp] theorem endGap_peer (m : Option SwitchMode) : (endGap m s).peer = s.peer := by
  unfold endGap; try dsimp only
  (repeat' split) <;> simp
@[simp] theorem endGap_fault (m : Option SwitchMode) : (endGap m s).fault = s.fault := by
  unfold endGap; try dsimp only
  (repeat' split) <;> simp
@[simp] theorem endGap_synth (m : Option SwitchMode) : (endGap m s).synth = s.synth := by
  unfold endGap; try dsimp only
  (repeat' split) <;> simp
@[simp] theorem endGap_report (m : Option SwitchMode) : (endGap m s).report = s.report := by
  unfold endGap; try dsimp only
  (repeat' split) <;> simp
@[simp] theorem endGap_alert (m : Option SwitchMode) : (endGap m s).alert = s.alert := by
  unfold endGap; try dsimp only
  (repeat' split) <;> simp

@[simp] theorem completeCue_pending : (completeCue s).pending = s.pending := by
  unfold completeCue; try dsimp only
  (repeat' split) <;> simp
@[simp] theorem completeCue_state : (completeCue s).state = s.state := by
  unfold completeCue; try dsimp only
  (repeat' split) <;> simp
@[simp] theorem completeCue_inReset : (completeCue s).inReset = s.inReset := by
  unfold completeCue; try dsimp only
  (repeat' split) <;> simp
@[simp] theorem completeCue_setup : (completeCue s).setup = s.setup := by
  unfold completeCue; try dsimp only
  (repeat' split) <;> simp
@[simp] theorem completeCue_straps : (completeCue s).straps = s.straps := by
  unfold completeCue; try dsimp only
  (repeat' split) <;> simp
@[simp] theorem completeCue_lines : (completeCue s).lines = s.lines := by
  unfold completeCue; try dsimp only
  (repeat' split) <;> simp
@[simp] theorem completeCue_port : (completeCue s).port = s.port := by
  unfold completeCue; try dsimp only
  (repeat' split) <;> simp
@[simp] theorem completeCue_peer : (completeCue s).peer = s.peer := by
  unfold completeCue; try dsimp only
  (repeat' split) <;> simp
@[simp] theorem completeCue_fault : (completeCue s).fault = s.fault := by
  unfold completeCue; try dsimp only
  (repeat' split) <;> simp

@[simp] theorem endRamp_pending : (endRamp s).pending = s.pending := by
  unfold endRamp; try dsimp only
  (repeat' split) <;> simp
@[simp] theorem endRamp_state : (endRamp s).state = s.state := by
  unfold endRamp; try dsimp only
  (repeat' split) <;> simp
@[simp] theorem endRamp_inReset : (endRamp s).inReset = s.inReset := by
  unfold endRamp; try dsimp only
  (repeat' split) <;> simp
@[simp] theorem endRamp_setup : (endRamp s).setup = s.setup := by
  unfold endRamp; try dsimp only
  (repeat' split) <;> simp
@[simp] theorem endRamp_straps : (endRamp s).straps = s.straps := by
  unfold endRamp; try dsimp only
  (repeat' split) <;> simp
@[simp] theorem endRamp_lines : (endRamp s).lines = s.lines := by
  unfold endRamp; try dsimp only
  (repeat' split) <;> simp
@[simp] theorem endRamp_port : (endRamp s).port = s.port := by
  unfold endRamp; try dsimp only
  (repeat' split) <;> simp
@[simp] theorem endRamp_group : (endRamp s).group = s.group := by
  unfold endRamp; try dsimp only
  (repeat' split) <;> simp
@[simp] theorem endRamp_pll : (endRamp s).pll = s.pll := by
  unfold endRamp; try dsimp only
  (repeat' split) <;> simp
@[simp] theorem endRamp_peer : (endRamp s).peer = s.peer := by
  unfold endRamp; try dsimp only
  (repeat' split) <;> simp
@[simp] theorem endRamp_fault : (endRamp s).fault = s.fault := by
  unfold endRamp; try dsimp only
  (repeat' split) <;> simp
@[simp] theorem endRamp_sw : (endRamp s).sw = s.sw := by
  unfold endRamp; try dsimp only
  (repeat' split) <;> simp
@[simp] theorem endRamp_report : (endRamp s).report = s.report := by
  unfold endRamp; try dsimp only
  (repeat' split) <;> simp
@[simp] theorem endRamp_alert : (endRamp s).alert = s.alert := by
  unfold endRamp; try dsimp only
  (repeat' split) <;> simp

@[simp] theorem changeFlicker_pending : (changeFlicker s).pending = s.pending := by
  unfold changeFlicker; try dsimp only
  (repeat' split) <;> simp
@[simp] theorem changeFlicker_state : (changeFlicker s).state = s.state := by
  unfold changeFlicker; try dsimp only
  (repeat' split) <;> simp
@[simp] theorem changeFlicker_inReset : (changeFlicker s).inReset = s.inReset := by
  unfold changeFlicker; try dsimp only
  (repeat' split) <;> simp
@[simp] theorem changeFlicker_setup : (changeFlicker s).setup = s.setup := by
  unfold changeFlicker; try dsimp only
  (repeat' split) <;> simp
@[simp] theorem changeFlicker_straps : (changeFlicker s).straps = s.straps := by
  unfold changeFlicker; try dsimp only
  (repeat' split) <;> simp
@[simp] theorem changeFlicker_lines : (changeFlicker s).lines = s.lines := by
  unfold changeFlicker; try dsimp only
  (repeat' split) <;> simp
@[simp] theorem changeFlicker_port : (changeFlicker s).port = s.port := by
  unfold changeFlicker; try dsimp only
  (repeat' split) <;> simp
@[simp] theorem changeFlicker_group : (changeFlicker s).group = s.group := by
  unfold changeFlicker; try dsimp only
  (repeat' split) <;> simp
@[simp] theorem changeFlicker_pll : (changeFlicker s).pll = s.pll := by
  unfold changeFlicker; try dsimp only
  (repeat' split) <;> simp
@[simp] theorem changeFlicker_peer : (changeFlicker s).peer = s.peer := by
  unfold changeFlicker; try dsimp only
  (repeat' split) <;> simp
@[simp] theorem changeFlicker_fault : (changeFlicker s).fault = s.fault := by
  unfold changeFlicker; try dsimp only
  (repeat' split) <;> simp
@[simp] theorem changeFlicker_sw : (changeFlicker s).sw = s.sw := by
  unfold changeFlicker; try dsimp only
  (repeat' split) <;> simp
@[simp] theorem changeFlicker_meas : (changeFlicker s).meas = s.meas := by
  unfold changeFlicker; try dsimp only
  (repeat' split) <;> simp
@[simp] theorem changeFlicker_report : (changeFlicker s).report = s.report := by
  unfold changeFlicker; try dsimp only
  (repeat' split) <;> simp
@[simp] theorem changeFlicker_alert : (changeFlicker s).alert = s.alert := by
  unfold changeFlicker; try dsimp only
  (repeat' split) <;> simp

@[simp] theorem setChannel_pending (c : Channel) (x : ChannelState) : (setChannel c x s).pending = s.pending := by
  unfold setChannel; try dsimp only
  (repeat' split) <;> simp
@[simp] theorem setChannel_state (c : Channel) (x : ChannelState) : (setChannel c x s).state = s.state := by
  unfold setChannel; try dsimp only
  (repeat' split) <;> simp
@[simp] theorem setChannel_inReset (c : Channel) (x : ChannelState) : (setChannel c x s).inReset = s.inReset := by
  unfold setChannel; try dsimp only
  (repeat' split) <;> simp
@[simp] theorem setChannel_setup (c : Channel) (x : ChannelState) : (setChannel c x s).setup = s.setup := by
  unfold setChannel; try dsimp only
  (repeat' split) <;> simp
@[simp] theorem setChannel_straps (c : Channel) (x : ChannelState) : (setChannel c x s).straps = s.straps := by
  unfold setChannel; try dsimp only
  (repeat' split) <;> simp
@[simp] theorem setChannel_lines (c : Channel) (x : ChannelState) : (setChannel c x s).lines = s.lines := by
  unfold setChannel; try dsimp only
  (repeat' split) <;> simp
@[simp] theorem setChannel_port (c : Channel) (x : ChannelState) : (setChannel c x s).port = s.port := by
  unfold setChannel; try dsimp only
  (repeat' split) <;> simp
@[simp] theorem setChannel_cue (c : Channel) (x : ChannelState) : (setChannel c x s).cue = s.cue := by
  unfold setChannel; try dsimp only
  (repeat' split) <;> simp
@[simp] theorem setChannel_group (c : Channel) (x : ChannelState) : (setChannel c x s).group = s.group := by
  unfold setChannel; try dsimp only
  (repeat' split) <;> simp
@[simp] theorem setChannel_pll (c : Channel) (x : ChannelState) : (setChannel c x s).pll = s.pll := by
  unfold setChannel; try dsimp only
  (repeat' split) <;> simp
@[simp] theorem setChannel_peer (c : Channel) (x : ChannelState) : (setChannel c x s).peer = s.peer := by
  unfold setChannel; try dsimp only
  (repeat' split) <;> simp
@[simp] theorem setChannel_fault (c : Channel) (x : ChannelState) : (setChannel c x s).fault = s.fault := by
  unfold setChannel; try dsimp only
  (repeat' split) <;> simp
@[simp] theorem setChannel_synth (c : Channel) (x : ChannelState) : (setChannel c x s).synth = s.synth := by
  unfold setChannel; try dsimp only
  (repeat' split) <;> simp
@[simp] theorem setChannel_sw (c : Channel) (x : ChannelState) : (setChannel c x s).sw = s.sw := by
  unfold setChannel; try dsimp only
  (repeat' split) <;> simp
@[simp] theorem setChannel_report (c : Channel) (x : ChannelState) : (setChannel c x s).report = s.report := by
  unfold setChannel; try dsimp only
  (repeat' split) <;> simp
@[simp] theorem setChannel_alert (c : Channel) (x : ChannelState) : (setChannel c x s).alert = s.alert := by
  unfold setChannel; try dsimp only
  (repeat' split) <;> simp

@[simp] theorem endClamp_pending : (endClamp s).pending = s.pending := by
  unfold endClamp; try dsimp only
  (repeat' split) <;> simp
@[simp] theorem endClamp_state : (endClamp s).state = s.state := by
  unfold endClamp; try dsimp only
  (repeat' split) <;> simp
@[simp] theorem endClamp_inReset : (endClamp s).inReset = s.inReset := by
  unfold endClamp; try dsimp only
  (repeat' split) <;> simp
@[simp] theorem endClamp_setup : (endClamp s).setup = s.setup := by
  unfold endClamp; try dsimp only
  (repeat' split) <;> simp
@[simp] theorem endClamp_straps : (endClamp s).straps = s.straps := by
  unfold endClamp; try dsimp only
  (repeat' split) <;> simp
@[simp] theorem endClamp_lines : (endClamp s).lines = s.lines := by
  unfold endClamp; try dsimp only
  (repeat' split) <;> simp
@[simp] theorem endClamp_port : (endClamp s).port = s.port := by
  unfold endClamp; try dsimp only
  (repeat' split) <;> simp
@[simp] theorem endClamp_cue : (endClamp s).cue = s.cue := by
  unfold endClamp; try dsimp only
  (repeat' split) <;> simp
@[simp] theorem endClamp_group : (endClamp s).group = s.group := by
  unfold endClamp; try dsimp only
  (repeat' split) <;> simp
@[simp] theorem endClamp_pll : (endClamp s).pll = s.pll := by
  unfold endClamp; try dsimp only
  (repeat' split) <;> simp
@[simp] theorem endClamp_peer : (endClamp s).peer = s.peer := by
  unfold endClamp; try dsimp only
  (repeat' split) <;> simp
@[simp] theorem endClamp_fault : (endClamp s).fault = s.fault := by
  unfold endClamp; try dsimp only
  (repeat' split) <;> simp
@[simp] theorem endClamp_sw : (endClamp s).sw = s.sw := by
  unfold endClamp; try dsimp only
  (repeat' split) <;> simp
@[simp] theorem endClamp_meas : (endClamp s).meas = s.meas := by
  unfold endClamp; try dsimp only
  (repeat' split) <;> simp
@[simp] theorem endClamp_report : (endClamp s).report = s.report := by
  unfold endClamp; try dsimp only
  (repeat' split) <;> simp
@[simp] theorem endClamp_alert : (endClamp s).alert = s.alert := by
  unfold endClamp; try dsimp only
  (repeat' split) <;> simp

@[simp] theorem requestClamp_pending : (requestClamp s).pending = s.pending := by
  unfold requestClamp; try dsimp only
  (repeat' split) <;> simp
@[simp] theorem requestClamp_state : (requestClamp s).state = s.state := by
  unfold requestClamp; try dsimp only
  (repeat' split) <;> simp
@[simp] theorem requestClamp_inReset : (requestClamp s).inReset = s.inReset := by
  unfold requestClamp; try dsimp only
  (repeat' split) <;> simp
@[simp] theorem requestClamp_setup : (requestClamp s).setup = s.setup := by
  unfold requestClamp; try dsimp only
  (repeat' split) <;> simp
@[simp] theorem requestClamp_straps : (requestClamp s).straps = s.straps := by
  unfold requestClamp; try dsimp only
  (repeat' split) <;> simp
@[simp] theorem requestClamp_lines : (requestClamp s).lines = s.lines := by
  unfold requestClamp; try dsimp only
  (repeat' split) <;> simp
@[simp] theorem requestClamp_port : (requestClamp s).port = s.port := by
  unfold requestClamp; try dsimp only
  (repeat' split) <;> simp
@[simp] theorem requestClamp_cue : (requestClamp s).cue = s.cue := by
  unfold requestClamp; try dsimp only
  (repeat' split) <;> simp
@[simp] theorem requestClamp_group : (requestClamp s).group = s.group := by
  unfold requestClamp; try dsimp only
  (repeat' split) <;> simp
@[simp] theorem requestClamp_pll : (requestClamp s).pll = s.pll := by
  unfold requestClamp; try dsimp only
  (repeat' split) <;> simp
@[simp] theorem requestClamp_peer : (requestClamp s).peer = s.peer := by
  unfold requestClamp; try dsimp only
  (repeat' split) <;> simp
@[simp] theorem requestClamp_fault : (requestClamp s).fault = s.fault := by
  unfold requestClamp; try dsimp only
  (repeat' split) <;> simp
@[simp] theorem requestClamp_sw : (requestClamp s).sw = s.sw := by
  unfold requestClamp; try dsimp only
  (repeat' split) <;> simp
@[simp] theorem requestClamp_meas : (requestClamp s).meas = s.meas := by
  unfold requestClamp; try dsimp only
  (repeat' split) <;> simp
@[simp] theorem requestClamp_report : (requestClamp s).report = s.report := by
  unfold requestClamp; try dsimp only
  (repeat' split) <;> simp
@[simp] theorem requestClamp_alert : (requestClamp s).alert = s.alert := by
  unfold requestClamp; try dsimp only
  (repeat' split) <;> simp

@[simp] theorem judgeCurrent_pending (c : Channel) (r : Int) : (judgeCurrent c r s).pending = s.pending := by
  unfold judgeCurrent; try dsimp only
  (repeat' split) <;> simp
@[simp] theorem judgeCurrent_state (c : Channel) (r : Int) : (judgeCurrent c r s).state = s.state := by
  unfold judgeCurrent; try dsimp only
  (repeat' split) <;> simp
@[simp] theorem judgeCurrent_inReset (c : Channel) (r : Int) : (judgeCurrent c r s).inReset = s.inReset := by
  unfold judgeCurrent; try dsimp only
  (repeat' split) <;> simp
@[simp] theorem judgeCurrent_setup (c : Channel) (r : Int) : (judgeCurrent c r s).setup = s.setup := by
  unfold judgeCurrent; try dsimp only
  (repeat' split) <;> simp
@[simp] theorem judgeCurrent_straps (c : Channel) (r : Int) : (judgeCurrent c r s).straps = s.straps := by
  unfold judgeCurrent; try dsimp only
  (repeat' split) <;> simp
@[simp] theorem judgeCurrent_lines (c : Channel) (r : Int) : (judgeCurrent c r s).lines = s.lines := by
  unfold judgeCurrent; try dsimp only
  (repeat' split) <;> simp
@[simp] theorem judgeCurrent_port (c : Channel) (r : Int) : (judgeCurrent c r s).port = s.port := by
  unfold judgeCurrent; try dsimp only
  (repeat' split) <;> simp
@[simp] theorem judgeCurrent_cue (c : Channel) (r : Int) : (judgeCurrent c r s).cue = s.cue := by
  unfold judgeCurrent; try dsimp only
  (repeat' split) <;> simp
@[simp] theorem judgeCurrent_group (c : Channel) (r : Int) : (judgeCurrent c r s).group = s.group := by
  unfold judgeCurrent; try dsimp only
  (repeat' split) <;> simp
@[simp] theorem judgeCurrent_pll (c : Channel) (r : Int) : (judgeCurrent c r s).pll = s.pll := by
  unfold judgeCurrent; try dsimp only
  (repeat' split) <;> simp
@[simp] theorem judgeCurrent_peer (c : Channel) (r : Int) : (judgeCurrent c r s).peer = s.peer := by
  unfold judgeCurrent; try dsimp only
  (repeat' split) <;> simp
@[simp] theorem judgeCurrent_fault (c : Channel) (r : Int) : (judgeCurrent c r s).fault = s.fault := by
  unfold judgeCurrent; try dsimp only
  (repeat' split) <;> simp
@[simp] theorem judgeCurrent_sw (c : Channel) (r : Int) : (judgeCurrent c r s).sw = s.sw := by
  unfold judgeCurrent; try dsimp only
  (repeat' split) <;> simp
@[simp] theorem judgeCurrent_report (c : Channel) (r : Int) : (judgeCurrent c r s).report = s.report := by
  unfold judgeCurrent; try dsimp only
  (repeat' split) <;> simp
@[simp] theorem judgeCurrent_alert (c : Channel) (r : Int) : (judgeCurrent c r s).alert = s.alert := by
  unfold judgeCurrent; try dsimp only
  (repeat' split) <;> simp

@[simp] theorem takeResult_pending (c : Channel) (w : List Bool) (r : Int) : (takeResult c w r s).pending = s.pending := by
  unfold takeResult; try dsimp only
  (repeat' split) <;> simp
@[simp] theorem takeResult_state (c : Channel) (w : List Bool) (r : Int) : (takeResult c w r s).state = s.state := by
  unfold takeResult; try dsimp only
  (repeat' split) <;> simp
@[simp] theorem takeResult_inReset (c : Channel) (w : List Bool) (r : Int) : (takeResult c w r s).inReset = s.inReset := by
  unfold takeResult; try dsimp only
  (repeat' split) <;> simp
@[simp] theorem takeResult_setup (c : Channel) (w : List Bool) (r : Int) : (takeResult c w r s).setup = s.setup := by
  unfold takeResult; try dsimp only
  (repeat' split) <;> simp
@[simp] theorem takeResult_straps (c : Channel) (w : List Bool) (r : Int) : (takeResult c w r s).straps = s.straps := by
  unfold takeResult; try dsimp only
  (repeat' split) <;> simp
@[simp] theorem takeResult_lines (c : Channel) (w : List Bool) (r : Int) : (takeResult c w r s).lines = s.lines := by
  unfold takeResult; try dsimp only
  (repeat' split) <;> simp
@[simp] theorem takeResult_port (c : Channel) (w : List Bool) (r : Int) : (takeResult c w r s).port = s.port := by
  unfold takeResult; try dsimp only
  (repeat' split) <;> simp
@[simp] theorem takeResult_cue (c : Channel) (w : List Bool) (r : Int) : (takeResult c w r s).cue = s.cue := by
  unfold takeResult; try dsimp only
  (repeat' split) <;> simp
@[simp] theorem takeResult_group (c : Channel) (w : List Bool) (r : Int) : (takeResult c w r s).group = s.group := by
  unfold takeResult; try dsimp only
  (repeat' split) <;> simp
@[simp] theorem takeResult_pll (c : Channel) (w : List Bool) (r : Int) : (takeResult c w r s).pll = s.pll := by
  unfold takeResult; try dsimp only
  (repeat' split) <;> simp
@[simp] theorem takeResult_peer (c : Channel) (w : List Bool) (r : Int) : (takeResult c w r s).peer = s.peer := by
  unfold takeResult; try dsimp only
  (repeat' split) <;> simp
@[simp] theorem takeResult_fault (c : Channel) (w : List Bool) (r : Int) : (takeResult c w r s).fault = s.fault := by
  unfold takeResult; try dsimp only
  (repeat' split) <;> simp
@[simp] theorem takeResult_sw (c : Channel) (w : List Bool) (r : Int) : (takeResult c w r s).sw = s.sw := by
  unfold takeResult; try dsimp only
  (repeat' split) <;> simp
@[simp] theorem takeResult_report (c : Channel) (w : List Bool) (r : Int) : (takeResult c w r s).report = s.report := by
  unfold takeResult; try dsimp only
  (repeat' split) <;> simp
@[simp] theorem takeResult_alert (c : Channel) (w : List Bool) (r : Int) : (takeResult c w r s).alert = s.alert := by
  unfold takeResult; try dsimp only
  (repeat' split) <;> simp

@[simp] theorem decimate_pending (c : Channel) (bits : List Bool) : (decimate c bits s).pending = s.pending := by
  unfold decimate; try dsimp only
  (repeat' split) <;> simp
@[simp] theorem decimate_state (c : Channel) (bits : List Bool) : (decimate c bits s).state = s.state := by
  unfold decimate; try dsimp only
  (repeat' split) <;> simp
@[simp] theorem decimate_inReset (c : Channel) (bits : List Bool) : (decimate c bits s).inReset = s.inReset := by
  unfold decimate; try dsimp only
  (repeat' split) <;> simp
@[simp] theorem decimate_setup (c : Channel) (bits : List Bool) : (decimate c bits s).setup = s.setup := by
  unfold decimate; try dsimp only
  (repeat' split) <;> simp
@[simp] theorem decimate_straps (c : Channel) (bits : List Bool) : (decimate c bits s).straps = s.straps := by
  unfold decimate; try dsimp only
  (repeat' split) <;> simp
@[simp] theorem decimate_lines (c : Channel) (bits : List Bool) : (decimate c bits s).lines = s.lines := by
  unfold decimate; try dsimp only
  (repeat' split) <;> simp
@[simp] theorem decimate_port (c : Channel) (bits : List Bool) : (decimate c bits s).port = s.port := by
  unfold decimate; try dsimp only
  (repeat' split) <;> simp
@[simp] theorem decimate_cue (c : Channel) (bits : List Bool) : (decimate c bits s).cue = s.cue := by
  unfold decimate; try dsimp only
  (repeat' split) <;> simp
@[simp] theorem decimate_group (c : Channel) (bits : List Bool) : (decimate c bits s).group = s.group := by
  unfold decimate; try dsimp only
  (repeat' split) <;> simp
@[simp] theorem decimate_pll (c : Channel) (bits : List Bool) : (decimate c bits s).pll = s.pll := by
  unfold decimate; try dsimp only
  (repeat' split) <;> simp
@[simp] theorem decimate_peer (c : Channel) (bits : List Bool) : (decimate c bits s).peer = s.peer := by
  unfold decimate; try dsimp only
  (repeat' split) <;> simp
@[simp] theorem decimate_fault (c : Channel) (bits : List Bool) : (decimate c bits s).fault = s.fault := by
  unfold decimate; try dsimp only
  (repeat' split) <;> simp
@[simp] theorem decimate_sw (c : Channel) (bits : List Bool) : (decimate c bits s).sw = s.sw := by
  unfold decimate; try dsimp only
  (repeat' split) <;> simp
@[simp] theorem decimate_report (c : Channel) (bits : List Bool) : (decimate c bits s).report = s.report := by
  unfold decimate; try dsimp only
  (repeat' split) <;> simp
@[simp] theorem decimate_alert (c : Channel) (bits : List Bool) : (decimate c bits s).alert = s.alert := by
  unfold decimate; try dsimp only
  (repeat' split) <;> simp

@[simp] theorem setHeld_pending (a b : Bool) : (setHeld a b s).pending = s.pending := by
  unfold setHeld; try dsimp only
  (repeat' split) <;> simp
@[simp] theorem setHeld_state (a b : Bool) : (setHeld a b s).state = s.state := by
  unfold setHeld; try dsimp only
  (repeat' split) <;> simp
@[simp] theorem setHeld_inReset (a b : Bool) : (setHeld a b s).inReset = s.inReset := by
  unfold setHeld; try dsimp only
  (repeat' split) <;> simp
@[simp] theorem setHeld_setup (a b : Bool) : (setHeld a b s).setup = s.setup := by
  unfold setHeld; try dsimp only
  (repeat' split) <;> simp
@[simp] theorem setHeld_straps (a b : Bool) : (setHeld a b s).straps = s.straps := by
  unfold setHeld; try dsimp only
  (repeat' split) <;> simp
@[simp] theorem setHeld_lines (a b : Bool) : (setHeld a b s).lines = s.lines := by
  unfold setHeld; try dsimp only
  (repeat' split) <;> simp
@[simp] theorem setHeld_port (a b : Bool) : (setHeld a b s).port = s.port := by
  unfold setHeld; try dsimp only
  (repeat' split) <;> simp
@[simp] theorem setHeld_cue (a b : Bool) : (setHeld a b s).cue = s.cue := by
  unfold setHeld; try dsimp only
  (repeat' split) <;> simp
@[simp] theorem setHeld_group (a b : Bool) : (setHeld a b s).group = s.group := by
  unfold setHeld; try dsimp only
  (repeat' split) <;> simp
@[simp] theorem setHeld_pll (a b : Bool) : (setHeld a b s).pll = s.pll := by
  unfold setHeld; try dsimp only
  (repeat' split) <;> simp
@[simp] theorem setHeld_peer (a b : Bool) : (setHeld a b s).peer = s.peer := by
  unfold setHeld; try dsimp only
  (repeat' split) <;> simp
@[simp] theorem setHeld_fault (a b : Bool) : (setHeld a b s).fault = s.fault := by
  unfold setHeld; try dsimp only
  (repeat' split) <;> simp
@[simp] theorem setHeld_synth (a b : Bool) : (setHeld a b s).synth = s.synth := by
  unfold setHeld; try dsimp only
  (repeat' split) <;> simp
@[simp] theorem setHeld_sw (a b : Bool) : (setHeld a b s).sw = s.sw := by
  unfold setHeld; try dsimp only
  (repeat' split) <;> simp
@[simp] theorem setHeld_report (a b : Bool) : (setHeld a b s).report = s.report := by
  unfold setHeld; try dsimp only
  (repeat' split) <;> simp
@[simp] theorem setHeld_alert (a b : Bool) : (setHeld a b s).alert = s.alert := by
  unfold setHeld; try dsimp only
  (repeat' split) <;> simp

@[simp] theorem chargeSpan_pending (b : Bool) (v : Nat) : (chargeSpan b v s).pending = s.pending := by
  unfold chargeSpan; try dsimp only
  (repeat' split) <;> simp
@[simp] theorem chargeSpan_state (b : Bool) (v : Nat) : (chargeSpan b v s).state = s.state := by
  unfold chargeSpan; try dsimp only
  (repeat' split) <;> simp
@[simp] theorem chargeSpan_inReset (b : Bool) (v : Nat) : (chargeSpan b v s).inReset = s.inReset := by
  unfold chargeSpan; try dsimp only
  (repeat' split) <;> simp
@[simp] theorem chargeSpan_setup (b : Bool) (v : Nat) : (chargeSpan b v s).setup = s.setup := by
  unfold chargeSpan; try dsimp only
  (repeat' split) <;> simp
@[simp] theorem chargeSpan_straps (b : Bool) (v : Nat) : (chargeSpan b v s).straps = s.straps := by
  unfold chargeSpan; try dsimp only
  (repeat' split) <;> simp
@[simp] theorem chargeSpan_lines (b : Bool) (v : Nat) : (chargeSpan b v s).lines = s.lines := by
  unfold chargeSpan; try dsimp only
  (repeat' split) <;> simp
@[simp] theorem chargeSpan_port (b : Bool) (v : Nat) : (chargeSpan b v s).port = s.port := by
  unfold chargeSpan; try dsimp only
  (repeat' split) <;> simp
@[simp] theorem chargeSpan_cue (b : Bool) (v : Nat) : (chargeSpan b v s).cue = s.cue := by
  unfold chargeSpan; try dsimp only
  (repeat' split) <;> simp
@[simp] theorem chargeSpan_group (b : Bool) (v : Nat) : (chargeSpan b v s).group = s.group := by
  unfold chargeSpan; try dsimp only
  (repeat' split) <;> simp
@[simp] theorem chargeSpan_pll (b : Bool) (v : Nat) : (chargeSpan b v s).pll = s.pll := by
  unfold chargeSpan; try dsimp only
  (repeat' split) <;> simp
@[simp] theorem chargeSpan_peer (b : Bool) (v : Nat) : (chargeSpan b v s).peer = s.peer := by
  unfold chargeSpan; try dsimp only
  (repeat' split) <;> simp
@[simp] theorem chargeSpan_fault (b : Bool) (v : Nat) : (chargeSpan b v s).fault = s.fault := by
  unfold chargeSpan; try dsimp only
  (repeat' split) <;> simp
@[simp] theorem chargeSpan_synth (b : Bool) (v : Nat) : (chargeSpan b v s).synth = s.synth := by
  unfold chargeSpan; try dsimp only
  (repeat' split) <;> simp
@[simp] theorem chargeSpan_sw (b : Bool) (v : Nat) : (chargeSpan b v s).sw = s.sw := by
  unfold chargeSpan; try dsimp only
  (repeat' split) <;> simp
@[simp] theorem chargeSpan_report (b : Bool) (v : Nat) : (chargeSpan b v s).report = s.report := by
  unfold chargeSpan; try dsimp only
  (repeat' split) <;> simp

@[simp] theorem countOverload_pending (b : Bool) : (countOverload b s).pending = s.pending := by
  unfold countOverload; try dsimp only
  (repeat' split) <;> simp
@[simp] theorem countOverload_state (b : Bool) : (countOverload b s).state = s.state := by
  unfold countOverload; try dsimp only
  (repeat' split) <;> simp
@[simp] theorem countOverload_inReset (b : Bool) : (countOverload b s).inReset = s.inReset := by
  unfold countOverload; try dsimp only
  (repeat' split) <;> simp
@[simp] theorem countOverload_setup (b : Bool) : (countOverload b s).setup = s.setup := by
  unfold countOverload; try dsimp only
  (repeat' split) <;> simp
@[simp] theorem countOverload_straps (b : Bool) : (countOverload b s).straps = s.straps := by
  unfold countOverload; try dsimp only
  (repeat' split) <;> simp
@[simp] theorem countOverload_lines (b : Bool) : (countOverload b s).lines = s.lines := by
  unfold countOverload; try dsimp only
  (repeat' split) <;> simp
@[simp] theorem countOverload_port (b : Bool) : (countOverload b s).port = s.port := by
  unfold countOverload; try dsimp only
  (repeat' split) <;> simp
@[simp] theorem countOverload_cue (b : Bool) : (countOverload b s).cue = s.cue := by
  unfold countOverload; try dsimp only
  (repeat' split) <;> simp
@[simp] theorem countOverload_group (b : Bool) : (countOverload b s).group = s.group := by
  unfold countOverload; try dsimp only
  (repeat' split) <;> simp
@[simp] theorem countOverload_pll (b : Bool) : (countOverload b s).pll = s.pll := by
  unfold countOverload; try dsimp only
  (repeat' split) <;> simp
@[simp] theorem countOverload_peer (b : Bool) : (countOverload b s).peer = s.peer := by
  unfold countOverload; try dsimp only
  (repeat' split) <;> simp
@[simp] theorem countOverload_fault (b : Bool) : (countOverload b s).fault = s.fault := by
  unfold countOverload; try dsimp only
  (repeat' split) <;> simp
@[simp] theorem countOverload_synth (b : Bool) : (countOverload b s).synth = s.synth := by
  unfold countOverload; try dsimp only
  (repeat' split) <;> simp
@[simp] theorem countOverload_sw (b : Bool) : (countOverload b s).sw = s.sw := by
  unfold countOverload; try dsimp only
  (repeat' split) <;> simp
@[simp] theorem countOverload_report (b : Bool) : (countOverload b s).report = s.report := by
  unfold countOverload; try dsimp only
  (repeat' split) <;> simp
@[simp] theorem countOverload_alert (b : Bool) : (countOverload b s).alert = s.alert := by
  unfold countOverload; try dsimp only
  (repeat' split) <;> simp

@[simp] theorem judgeLoss_pending (a b : Bool) : (judgeLoss a b s).pending = s.pending := by
  unfold judgeLoss; try dsimp only
  (repeat' split) <;> simp
@[simp] theorem judgeLoss_state (a b : Bool) : (judgeLoss a b s).state = s.state := by
  unfold judgeLoss; try dsimp only
  (repeat' split) <;> simp
@[simp] theorem judgeLoss_inReset (a b : Bool) : (judgeLoss a b s).inReset = s.inReset := by
  unfold judgeLoss; try dsimp only
  (repeat' split) <;> simp
@[simp] theorem judgeLoss_setup (a b : Bool) : (judgeLoss a b s).setup = s.setup := by
  unfold judgeLoss; try dsimp only
  (repeat' split) <;> simp
@[simp] theorem judgeLoss_straps (a b : Bool) : (judgeLoss a b s).straps = s.straps := by
  unfold judgeLoss; try dsimp only
  (repeat' split) <;> simp
@[simp] theorem judgeLoss_lines (a b : Bool) : (judgeLoss a b s).lines = s.lines := by
  unfold judgeLoss; try dsimp only
  (repeat' split) <;> simp
@[simp] theorem judgeLoss_port (a b : Bool) : (judgeLoss a b s).port = s.port := by
  unfold judgeLoss; try dsimp only
  (repeat' split) <;> simp
@[simp] theorem judgeLoss_cue (a b : Bool) : (judgeLoss a b s).cue = s.cue := by
  unfold judgeLoss; try dsimp only
  (repeat' split) <;> simp
@[simp] theorem judgeLoss_group (a b : Bool) : (judgeLoss a b s).group = s.group := by
  unfold judgeLoss; try dsimp only
  (repeat' split) <;> simp
@[simp] theorem judgeLoss_pll (a b : Bool) : (judgeLoss a b s).pll = s.pll := by
  unfold judgeLoss; try dsimp only
  (repeat' split) <;> simp
@[simp] theorem judgeLoss_peer (a b : Bool) : (judgeLoss a b s).peer = s.peer := by
  unfold judgeLoss; try dsimp only
  (repeat' split) <;> simp
@[simp] theorem judgeLoss_fault (a b : Bool) : (judgeLoss a b s).fault = s.fault := by
  unfold judgeLoss; try dsimp only
  (repeat' split) <;> simp
@[simp] theorem judgeLoss_synth (a b : Bool) : (judgeLoss a b s).synth = s.synth := by
  unfold judgeLoss; try dsimp only
  (repeat' split) <;> simp
@[simp] theorem judgeLoss_sw (a b : Bool) : (judgeLoss a b s).sw = s.sw := by
  unfold judgeLoss; try dsimp only
  (repeat' split) <;> simp
@[simp] theorem judgeLoss_report (a b : Bool) : (judgeLoss a b s).report = s.report := by
  unfold judgeLoss; try dsimp only
  (repeat' split) <;> simp

@[simp] theorem passLoss_pending : (passLoss s).pending = s.pending := by
  unfold passLoss; try dsimp only
  (repeat' split) <;> simp
@[simp] theorem passLoss_inReset : (passLoss s).inReset = s.inReset := by
  unfold passLoss; try dsimp only
  (repeat' split) <;> simp
@[simp] theorem passLoss_setup : (passLoss s).setup = s.setup := by
  unfold passLoss; try dsimp only
  (repeat' split) <;> simp
@[simp] theorem passLoss_straps : (passLoss s).straps = s.straps := by
  unfold passLoss; try dsimp only
  (repeat' split) <;> simp
@[simp] theorem passLoss_lines : (passLoss s).lines = s.lines := by
  unfold passLoss; try dsimp only
  (repeat' split) <;> simp
@[simp] theorem passLoss_port : (passLoss s).port = s.port := by
  unfold passLoss; try dsimp only
  (repeat' split) <;> simp

@[simp] theorem markEmpty_pending (b : Bool) : (markEmpty b s).pending = s.pending := by
  unfold markEmpty; try dsimp only
  (repeat' split) <;> simp
@[simp] theorem markEmpty_state (b : Bool) : (markEmpty b s).state = s.state := by
  unfold markEmpty; try dsimp only
  (repeat' split) <;> simp
@[simp] theorem markEmpty_inReset (b : Bool) : (markEmpty b s).inReset = s.inReset := by
  unfold markEmpty; try dsimp only
  (repeat' split) <;> simp
@[simp] theorem markEmpty_setup (b : Bool) : (markEmpty b s).setup = s.setup := by
  unfold markEmpty; try dsimp only
  (repeat' split) <;> simp
@[simp] theorem markEmpty_straps (b : Bool) : (markEmpty b s).straps = s.straps := by
  unfold markEmpty; try dsimp only
  (repeat' split) <;> simp
@[simp] theorem markEmpty_lines (b : Bool) : (markEmpty b s).lines = s.lines := by
  unfold markEmpty; try dsimp only
  (repeat' split) <;> simp
@[simp] theorem markEmpty_port (b : Bool) : (markEmpty b s).port = s.port := by
  unfold markEmpty; try dsimp only
  (repeat' split) <;> simp
@[simp] theorem markEmpty_cue (b : Bool) : (markEmpty b s).cue = s.cue := by
  unfold markEmpty; try dsimp only
  (repeat' split) <;> simp
@[simp] theorem markEmpty_group (b : Bool) : (markEmpty b s).group = s.group := by
  unfold markEmpty; try dsimp only
  (repeat' split) <;> simp
@[simp] theorem markEmpty_pll (b : Bool) : (markEmpty b s).pll = s.pll := by
  unfold markEmpty; try dsimp only
  (repeat' split) <;> simp
@[simp] theorem markEmpty_peer (b : Bool) : (markEmpty b s).peer = s.peer := by
  unfold markEmpty; try dsimp only
  (repeat' split) <;> simp
@[simp] theorem markEmpty_fault (b : Bool) : (markEmpty b s).fault = s.fault := by
  unfold markEmpty; try dsimp only
  (repeat' split) <;> simp
@[simp] theorem markEmpty_synth (b : Bool) : (markEmpty b s).synth = s.synth := by
  unfold markEmpty; try dsimp only
  (repeat' split) <;> simp
@[simp] theorem markEmpty_sw (b : Bool) : (markEmpty b s).sw = s.sw := by
  unfold markEmpty; try dsimp only
  (repeat' split) <;> simp
@[simp] theorem markEmpty_report (b : Bool) : (markEmpty b s).report = s.report := by
  unfold markEmpty; try dsimp only
  (repeat' split) <;> simp
@[simp] theorem markEmpty_alert (b : Bool) : (markEmpty b s).alert = s.alert := by
  unfold markEmpty; try dsimp only
  (repeat' split) <;> simp

@[simp] theorem closeHalf_pending (b : Bool) : (closeHalf b s).pending = s.pending := by
  unfold closeHalf; dsimp only
  simp
@[simp] theorem closeHalf_state (b : Bool) : (closeHalf b s).state = s.state := by
  unfold closeHalf; dsimp only
  simp
@[simp] theorem closeHalf_inReset (b : Bool) : (closeHalf b s).inReset = s.inReset := by
  unfold closeHalf; dsimp only
  simp
@[simp] theorem closeHalf_setup (b : Bool) : (closeHalf b s).setup = s.setup := by
  unfold closeHalf; dsimp only
  simp
@[simp] theorem closeHalf_straps (b : Bool) : (closeHalf b s).straps = s.straps := by
  unfold closeHalf; dsimp only
  simp
@[simp] theorem closeHalf_lines (b : Bool) : (closeHalf b s).lines = s.lines := by
  unfold closeHalf; dsimp only
  simp
@[simp] theorem closeHalf_port (b : Bool) : (closeHalf b s).port = s.port := by
  unfold closeHalf; dsimp only
  simp
@[simp] theorem closeHalf_cue (b : Bool) : (closeHalf b s).cue = s.cue := by
  unfold closeHalf; dsimp only
  simp
@[simp] theorem closeHalf_group (b : Bool) : (closeHalf b s).group = s.group := by
  unfold closeHalf; dsimp only
  simp
@[simp] theorem closeHalf_pll (b : Bool) : (closeHalf b s).pll = s.pll := by
  unfold closeHalf; dsimp only
  simp
@[simp] theorem closeHalf_peer (b : Bool) : (closeHalf b s).peer = s.peer := by
  unfold closeHalf; dsimp only
  simp
@[simp] theorem closeHalf_fault (b : Bool) : (closeHalf b s).fault = s.fault := by
  unfold closeHalf; dsimp only
  simp
@[simp] theorem closeHalf_synth (b : Bool) : (closeHalf b s).synth = s.synth := by
  unfold closeHalf; dsimp only
  simp
@[simp] theorem closeHalf_sw (b : Bool) : (closeHalf b s).sw = s.sw := by
  unfold closeHalf; dsimp only
  simp
@[simp] theorem closeHalf_report (b : Bool) : (closeHalf b s).report = s.report := by
  unfold closeHalf; dsimp only
  simp

@[simp] theorem completeFaultStop_pending : (completeFaultStop s).pending = s.pending := by
  unfold completeFaultStop; try dsimp only
  (repeat' split) <;> simp
@[simp] theorem completeFaultStop_state : (completeFaultStop s).state = s.state := by
  unfold completeFaultStop; try dsimp only
  (repeat' split) <;> simp
@[simp] theorem completeFaultStop_inReset : (completeFaultStop s).inReset = s.inReset := by
  unfold completeFaultStop; try dsimp only
  (repeat' split) <;> simp
@[simp] theorem completeFaultStop_setup : (completeFaultStop s).setup = s.setup := by
  unfold completeFaultStop; try dsimp only
  (repeat' split) <;> simp
@[simp] theorem completeFaultStop_straps : (completeFaultStop s).straps = s.straps := by
  unfold completeFaultStop; try dsimp only
  (repeat' split) <;> simp
@[simp] theorem completeFaultStop_lines : (completeFaultStop s).lines = s.lines := by
  unfold completeFaultStop; try dsimp only
  (repeat' split) <;> simp
@[simp] theorem completeFaultStop_port : (completeFaultStop s).port = s.port := by
  unfold completeFaultStop; try dsimp only
  (repeat' split) <;> simp
@[simp] theorem completeFaultStop_cue : (completeFaultStop s).cue = s.cue := by
  unfold completeFaultStop; try dsimp only
  (repeat' split) <;> simp
@[simp] theorem completeFaultStop_group : (completeFaultStop s).group = s.group := by
  unfold completeFaultStop; try dsimp only
  (repeat' split) <;> simp
@[simp] theorem completeFaultStop_peer : (completeFaultStop s).peer = s.peer := by
  unfold completeFaultStop; try dsimp only
  (repeat' split) <;> simp
@[simp] theorem completeFaultStop_synth : (completeFaultStop s).synth = s.synth := by
  unfold completeFaultStop; try dsimp only
  (repeat' split) <;> simp
@[simp] theorem completeFaultStop_sw : (completeFaultStop s).sw = s.sw := by
  unfold completeFaultStop; try dsimp only
  (repeat' split) <;> simp
@[simp] theorem completeFaultStop_meas : (completeFaultStop s).meas = s.meas := by
  unfold completeFaultStop; try dsimp only
  (repeat' split) <;> simp
@[simp] theorem completeFaultStop_report : (completeFaultStop s).report = s.report := by
  unfold completeFaultStop; try dsimp only
  (repeat' split) <;> simp
@[simp] theorem completeFaultStop_alert : (completeFaultStop s).alert = s.alert := by
  unfold completeFaultStop; try dsimp only
  (repeat' split) <;> simp

@[simp] theorem judgeSeeking_pending (f : Option Angle) : (judgeSeeking f s).pending = s.pending := by
  unfold judgeSeeking; try dsimp only
  (repeat' split) <;> simp
@[simp] theorem judgeSeeking_state (f : Option Angle) : (judgeSeeking f s).state = s.state := by
  unfold judgeSeeking; try dsimp only
  (repeat' split) <;> simp
@[simp] theorem judgeSeeking_inReset (f : Option Angle) : (judgeSeeking f s).inReset = s.inReset := by
  unfold judgeSeeking; try dsimp only
  (repeat' split) <;> simp
@[simp] theorem judgeSeeking_setup (f : Option Angle) : (judgeSeeking f s).setup = s.setup := by
  unfold judgeSeeking; try dsimp only
  (repeat' split) <;> simp
@[simp] theorem judgeSeeking_straps (f : Option Angle) : (judgeSeeking f s).straps = s.straps := by
  unfold judgeSeeking; try dsimp only
  (repeat' split) <;> simp
@[simp] theorem judgeSeeking_lines (f : Option Angle) : (judgeSeeking f s).lines = s.lines := by
  unfold judgeSeeking; try dsimp only
  (repeat' split) <;> simp
@[simp] theorem judgeSeeking_port (f : Option Angle) : (judgeSeeking f s).port = s.port := by
  unfold judgeSeeking; try dsimp only
  (repeat' split) <;> simp
@[simp] theorem judgeSeeking_cue (f : Option Angle) : (judgeSeeking f s).cue = s.cue := by
  unfold judgeSeeking; try dsimp only
  (repeat' split) <;> simp
@[simp] theorem judgeSeeking_group (f : Option Angle) : (judgeSeeking f s).group = s.group := by
  unfold judgeSeeking; try dsimp only
  (repeat' split) <;> simp
@[simp] theorem judgeSeeking_peer (f : Option Angle) : (judgeSeeking f s).peer = s.peer := by
  unfold judgeSeeking; try dsimp only
  (repeat' split) <;> simp
@[simp] theorem judgeSeeking_fault (f : Option Angle) : (judgeSeeking f s).fault = s.fault := by
  unfold judgeSeeking; try dsimp only
  (repeat' split) <;> simp
@[simp] theorem judgeSeeking_synth (f : Option Angle) : (judgeSeeking f s).synth = s.synth := by
  unfold judgeSeeking; try dsimp only
  (repeat' split) <;> simp
@[simp] theorem judgeSeeking_sw (f : Option Angle) : (judgeSeeking f s).sw = s.sw := by
  unfold judgeSeeking; try dsimp only
  (repeat' split) <;> simp
@[simp] theorem judgeSeeking_report (f : Option Angle) : (judgeSeeking f s).report = s.report := by
  unfold judgeSeeking; try dsimp only
  (repeat' split) <;> simp
@[simp] theorem judgeSeeking_alert (f : Option Angle) : (judgeSeeking f s).alert = s.alert := by
  unfold judgeSeeking; try dsimp only
  (repeat' split) <;> simp

@[simp] theorem judgeLockedIdle_pending (f : Option Angle) : (judgeLockedIdle f s).pending = s.pending := by
  unfold judgeLockedIdle; try dsimp only
  (repeat' split) <;> simp
@[simp] theorem judgeLockedIdle_state (f : Option Angle) : (judgeLockedIdle f s).state = s.state := by
  unfold judgeLockedIdle; try dsimp only
  (repeat' split) <;> simp
@[simp] theorem judgeLockedIdle_inReset (f : Option Angle) : (judgeLockedIdle f s).inReset = s.inReset := by
  unfold judgeLockedIdle; try dsimp only
  (repeat' split) <;> simp
@[simp] theorem judgeLockedIdle_setup (f : Option Angle) : (judgeLockedIdle f s).setup = s.setup := by
  unfold judgeLockedIdle; try dsimp only
  (repeat' split) <;> simp
@[simp] theorem judgeLockedIdle_straps (f : Option Angle) : (judgeLockedIdle f s).straps = s.straps := by
  unfold judgeLockedIdle; try dsimp only
  (repeat' split) <;> simp
@[simp] theorem judgeLockedIdle_lines (f : Option Angle) : (judgeLockedIdle f s).lines = s.lines := by
  unfold judgeLockedIdle; try dsimp only
  (repeat' split) <;> simp
@[simp] theorem judgeLockedIdle_port (f : Option Angle) : (judgeLockedIdle f s).port = s.port := by
  unfold judgeLockedIdle; try dsimp only
  (repeat' split) <;> simp
@[simp] theorem judgeLockedIdle_cue (f : Option Angle) : (judgeLockedIdle f s).cue = s.cue := by
  unfold judgeLockedIdle; try dsimp only
  (repeat' split) <;> simp
@[simp] theorem judgeLockedIdle_group (f : Option Angle) : (judgeLockedIdle f s).group = s.group := by
  unfold judgeLockedIdle; try dsimp only
  (repeat' split) <;> simp
@[simp] theorem judgeLockedIdle_peer (f : Option Angle) : (judgeLockedIdle f s).peer = s.peer := by
  unfold judgeLockedIdle; try dsimp only
  (repeat' split) <;> simp
@[simp] theorem judgeLockedIdle_fault (f : Option Angle) : (judgeLockedIdle f s).fault = s.fault := by
  unfold judgeLockedIdle; try dsimp only
  (repeat' split) <;> simp
@[simp] theorem judgeLockedIdle_synth (f : Option Angle) : (judgeLockedIdle f s).synth = s.synth := by
  unfold judgeLockedIdle; try dsimp only
  (repeat' split) <;> simp
@[simp] theorem judgeLockedIdle_sw (f : Option Angle) : (judgeLockedIdle f s).sw = s.sw := by
  unfold judgeLockedIdle; try dsimp only
  (repeat' split) <;> simp
@[simp] theorem judgeLockedIdle_report (f : Option Angle) : (judgeLockedIdle f s).report = s.report := by
  unfold judgeLockedIdle; try dsimp only
  (repeat' split) <;> simp

@[simp] theorem applyFreq_pending (b : Bool) : (applyFreq b s).pending = s.pending := by
  unfold applyFreq; try dsimp only
  (repeat' split) <;> simp
@[simp] theorem applyFreq_state (b : Bool) : (applyFreq b s).state = s.state := by
  unfold applyFreq; try dsimp only
  (repeat' split) <;> simp
@[simp] theorem applyFreq_inReset (b : Bool) : (applyFreq b s).inReset = s.inReset := by
  unfold applyFreq; try dsimp only
  (repeat' split) <;> simp
@[simp] theorem applyFreq_setup (b : Bool) : (applyFreq b s).setup = s.setup := by
  unfold applyFreq; try dsimp only
  (repeat' split) <;> simp
@[simp] theorem applyFreq_straps (b : Bool) : (applyFreq b s).straps = s.straps := by
  unfold applyFreq; try dsimp only
  (repeat' split) <;> simp
@[simp] theorem applyFreq_lines (b : Bool) : (applyFreq b s).lines = s.lines := by
  unfold applyFreq; try dsimp only
  (repeat' split) <;> simp
@[simp] theorem applyFreq_port (b : Bool) : (applyFreq b s).port = s.port := by
  unfold applyFreq; try dsimp only
  (repeat' split) <;> simp
@[simp] theorem applyFreq_peer (b : Bool) : (applyFreq b s).peer = s.peer := by
  unfold applyFreq; try dsimp only
  (repeat' split) <;> simp
@[simp] theorem applyFreq_fault (b : Bool) : (applyFreq b s).fault = s.fault := by
  unfold applyFreq; try dsimp only
  (repeat' split) <;> simp

@[simp] theorem endPull_pending : (endPull s).pending = s.pending := by
  unfold endPull; try dsimp only
  (repeat' split) <;> simp
@[simp] theorem endPull_state : (endPull s).state = s.state := by
  unfold endPull; try dsimp only
  (repeat' split) <;> simp
@[simp] theorem endPull_inReset : (endPull s).inReset = s.inReset := by
  unfold endPull; try dsimp only
  (repeat' split) <;> simp
@[simp] theorem endPull_setup : (endPull s).setup = s.setup := by
  unfold endPull; try dsimp only
  (repeat' split) <;> simp
@[simp] theorem endPull_straps : (endPull s).straps = s.straps := by
  unfold endPull; try dsimp only
  (repeat' split) <;> simp
@[simp] theorem endPull_lines : (endPull s).lines = s.lines := by
  unfold endPull; try dsimp only
  (repeat' split) <;> simp
@[simp] theorem endPull_port : (endPull s).port = s.port := by
  unfold endPull; try dsimp only
  (repeat' split) <;> simp
@[simp] theorem endPull_cue : (endPull s).cue = s.cue := by
  unfold endPull; try dsimp only
  (repeat' split) <;> simp
@[simp] theorem endPull_group : (endPull s).group = s.group := by
  unfold endPull; try dsimp only
  (repeat' split) <;> simp
@[simp] theorem endPull_peer : (endPull s).peer = s.peer := by
  unfold endPull; try dsimp only
  (repeat' split) <;> simp
@[simp] theorem endPull_fault : (endPull s).fault = s.fault := by
  unfold endPull; try dsimp only
  (repeat' split) <;> simp
@[simp] theorem endPull_synth : (endPull s).synth = s.synth := by
  unfold endPull; try dsimp only
  (repeat' split) <;> simp
@[simp] theorem endPull_sw : (endPull s).sw = s.sw := by
  unfold endPull; try dsimp only
  (repeat' split) <;> simp
@[simp] theorem endPull_meas : (endPull s).meas = s.meas := by
  unfold endPull; try dsimp only
  (repeat' split) <;> simp
@[simp] theorem endPull_report : (endPull s).report = s.report := by
  unfold endPull; try dsimp only
  (repeat' split) <;> simp
@[simp] theorem endPull_alert : (endPull s).alert = s.alert := by
  unfold endPull; try dsimp only
  (repeat' split) <;> simp

@[simp] theorem slotZero_pending : (slotZero s).pending = s.pending := by
  unfold slotZero; try dsimp only
  (repeat' split) <;> simp
@[simp] theorem slotZero_state : (slotZero s).state = s.state := by
  unfold slotZero; try dsimp only
  (repeat' split) <;> simp
@[simp] theorem slotZero_inReset : (slotZero s).inReset = s.inReset := by
  unfold slotZero; try dsimp only
  (repeat' split) <;> simp
@[simp] theorem slotZero_setup : (slotZero s).setup = s.setup := by
  unfold slotZero; try dsimp only
  (repeat' split) <;> simp
@[simp] theorem slotZero_straps : (slotZero s).straps = s.straps := by
  unfold slotZero; try dsimp only
  (repeat' split) <;> simp
@[simp] theorem slotZero_lines : (slotZero s).lines = s.lines := by
  unfold slotZero; try dsimp only
  (repeat' split) <;> simp
@[simp] theorem slotZero_port : (slotZero s).port = s.port := by
  unfold slotZero; try dsimp only
  (repeat' split) <;> simp
@[simp] theorem slotZero_cue : (slotZero s).cue = s.cue := by
  unfold slotZero; try dsimp only
  (repeat' split) <;> simp
@[simp] theorem slotZero_group : (slotZero s).group = s.group := by
  unfold slotZero; try dsimp only
  (repeat' split) <;> simp
@[simp] theorem slotZero_pll : (slotZero s).pll = s.pll := by
  unfold slotZero; try dsimp only
  (repeat' split) <;> simp
@[simp] theorem slotZero_fault : (slotZero s).fault = s.fault := by
  unfold slotZero; try dsimp only
  (repeat' split) <;> simp
@[simp] theorem slotZero_synth : (slotZero s).synth = s.synth := by
  unfold slotZero; try dsimp only
  (repeat' split) <;> simp
@[simp] theorem slotZero_sw : (slotZero s).sw = s.sw := by
  unfold slotZero; try dsimp only
  (repeat' split) <;> simp
@[simp] theorem slotZero_meas : (slotZero s).meas = s.meas := by
  unfold slotZero; try dsimp only
  (repeat' split) <;> simp
@[simp] theorem slotZero_report : (slotZero s).report = s.report := by
  unfold slotZero; try dsimp only
  (repeat' split) <;> simp
@[simp] theorem slotZero_alert : (slotZero s).alert = s.alert := by
  unfold slotZero; try dsimp only
  (repeat' split) <;> simp

@[simp] theorem becomeLocked_pending : (becomeLocked s).pending = s.pending := by
  unfold becomeLocked; try dsimp only
  (repeat' split) <;> simp
@[simp] theorem becomeLocked_state : (becomeLocked s).state = s.state := by
  unfold becomeLocked; try dsimp only
  (repeat' split) <;> simp
@[simp] theorem becomeLocked_inReset : (becomeLocked s).inReset = s.inReset := by
  unfold becomeLocked; try dsimp only
  (repeat' split) <;> simp
@[simp] theorem becomeLocked_setup : (becomeLocked s).setup = s.setup := by
  unfold becomeLocked; try dsimp only
  (repeat' split) <;> simp
@[simp] theorem becomeLocked_straps : (becomeLocked s).straps = s.straps := by
  unfold becomeLocked; try dsimp only
  (repeat' split) <;> simp
@[simp] theorem becomeLocked_lines : (becomeLocked s).lines = s.lines := by
  unfold becomeLocked; try dsimp only
  (repeat' split) <;> simp
@[simp] theorem becomeLocked_port : (becomeLocked s).port = s.port := by
  unfold becomeLocked; try dsimp only
  (repeat' split) <;> simp
@[simp] theorem becomeLocked_cue : (becomeLocked s).cue = s.cue := by
  unfold becomeLocked; try dsimp only
  (repeat' split) <;> simp
@[simp] theorem becomeLocked_fault : (becomeLocked s).fault = s.fault := by
  unfold becomeLocked; try dsimp only
  (repeat' split) <;> simp
@[simp] theorem becomeLocked_synth : (becomeLocked s).synth = s.synth := by
  unfold becomeLocked; try dsimp only
  (repeat' split) <;> simp
@[simp] theorem becomeLocked_sw : (becomeLocked s).sw = s.sw := by
  unfold becomeLocked; try dsimp only
  (repeat' split) <;> simp
@[simp] theorem becomeLocked_meas : (becomeLocked s).meas = s.meas := by
  unfold becomeLocked; try dsimp only
  (repeat' split) <;> simp
@[simp] theorem becomeLocked_report : (becomeLocked s).report = s.report := by
  unfold becomeLocked; try dsimp only
  (repeat' split) <;> simp

@[simp] theorem lockStep_pending : (lockStep s).pending = s.pending := by
  unfold lockStep; try dsimp only
  (repeat' split) <;> simp
@[simp] theorem lockStep_state : (lockStep s).state = s.state := by
  unfold lockStep; try dsimp only
  (repeat' split) <;> simp
@[simp] theorem lockStep_inReset : (lockStep s).inReset = s.inReset := by
  unfold lockStep; try dsimp only
  (repeat' split) <;> simp
@[simp] theorem lockStep_setup : (lockStep s).setup = s.setup := by
  unfold lockStep; try dsimp only
  (repeat' split) <;> simp
@[simp] theorem lockStep_straps : (lockStep s).straps = s.straps := by
  unfold lockStep; try dsimp only
  (repeat' split) <;> simp
@[simp] theorem lockStep_lines : (lockStep s).lines = s.lines := by
  unfold lockStep; try dsimp only
  (repeat' split) <;> simp
@[simp] theorem lockStep_port : (lockStep s).port = s.port := by
  unfold lockStep; try dsimp only
  (repeat' split) <;> simp
@[simp] theorem lockStep_cue : (lockStep s).cue = s.cue := by
  unfold lockStep; try dsimp only
  (repeat' split) <;> simp
@[simp] theorem lockStep_fault : (lockStep s).fault = s.fault := by
  unfold lockStep; try dsimp only
  (repeat' split) <;> simp
@[simp] theorem lockStep_synth : (lockStep s).synth = s.synth := by
  unfold lockStep; try dsimp only
  (repeat' split) <;> simp
@[simp] theorem lockStep_sw : (lockStep s).sw = s.sw := by
  unfold lockStep; try dsimp only
  (repeat' split) <;> simp
@[simp] theorem lockStep_meas : (lockStep s).meas = s.meas := by
  unfold lockStep; try dsimp only
  (repeat' split) <;> simp
@[simp] theorem lockStep_report : (lockStep s).report = s.report := by
  unfold lockStep; try dsimp only
  (repeat' split) <;> simp

@[simp] theorem founderStep_pending : (founderStep s).pending = s.pending := by
  unfold founderStep found; try dsimp only
  (repeat' split) <;> simp
@[simp] theorem founderStep_state : (founderStep s).state = s.state := by
  unfold founderStep found; try dsimp only
  (repeat' split) <;> simp
@[simp] theorem founderStep_inReset : (founderStep s).inReset = s.inReset := by
  unfold founderStep found; try dsimp only
  (repeat' split) <;> simp
@[simp] theorem founderStep_setup : (founderStep s).setup = s.setup := by
  unfold founderStep found; try dsimp only
  (repeat' split) <;> simp
@[simp] theorem founderStep_straps : (founderStep s).straps = s.straps := by
  unfold founderStep found; try dsimp only
  (repeat' split) <;> simp
@[simp] theorem founderStep_lines : (founderStep s).lines = s.lines := by
  unfold founderStep found; try dsimp only
  (repeat' split) <;> simp
@[simp] theorem founderStep_port : (founderStep s).port = s.port := by
  unfold founderStep found; try dsimp only
  (repeat' split) <;> simp
@[simp] theorem founderStep_cue : (founderStep s).cue = s.cue := by
  unfold founderStep found; try dsimp only
  (repeat' split) <;> simp
@[simp] theorem founderStep_fault : (founderStep s).fault = s.fault := by
  unfold founderStep found; try dsimp only
  (repeat' split) <;> simp
@[simp] theorem founderStep_synth : (founderStep s).synth = s.synth := by
  unfold founderStep found; try dsimp only
  (repeat' split) <;> simp
@[simp] theorem founderStep_sw : (founderStep s).sw = s.sw := by
  unfold founderStep found; try dsimp only
  (repeat' split) <;> simp
@[simp] theorem founderStep_meas : (founderStep s).meas = s.meas := by
  unfold founderStep found; try dsimp only
  (repeat' split) <;> simp
@[simp] theorem founderStep_report : (founderStep s).report = s.report := by
  unfold founderStep found; try dsimp only
  (repeat' split) <;> simp

@[simp] theorem noteFall_pending (f : Angle) : (noteFall f s).pending = s.pending := by
  unfold noteFall; try dsimp only
  (repeat' split) <;> simp
@[simp] theorem noteFall_state (f : Angle) : (noteFall f s).state = s.state := by
  unfold noteFall; try dsimp only
  (repeat' split) <;> simp
@[simp] theorem noteFall_inReset (f : Angle) : (noteFall f s).inReset = s.inReset := by
  unfold noteFall; try dsimp only
  (repeat' split) <;> simp
@[simp] theorem noteFall_setup (f : Angle) : (noteFall f s).setup = s.setup := by
  unfold noteFall; try dsimp only
  (repeat' split) <;> simp
@[simp] theorem noteFall_straps (f : Angle) : (noteFall f s).straps = s.straps := by
  unfold noteFall; try dsimp only
  (repeat' split) <;> simp
@[simp] theorem noteFall_lines (f : Angle) : (noteFall f s).lines = s.lines := by
  unfold noteFall; try dsimp only
  (repeat' split) <;> simp
@[simp] theorem noteFall_port (f : Angle) : (noteFall f s).port = s.port := by
  unfold noteFall; try dsimp only
  (repeat' split) <;> simp
@[simp] theorem noteFall_cue (f : Angle) : (noteFall f s).cue = s.cue := by
  unfold noteFall; try dsimp only
  (repeat' split) <;> simp
@[simp] theorem noteFall_group (f : Angle) : (noteFall f s).group = s.group := by
  unfold noteFall; try dsimp only
  (repeat' split) <;> simp
@[simp] theorem noteFall_peer (f : Angle) : (noteFall f s).peer = s.peer := by
  unfold noteFall; try dsimp only
  (repeat' split) <;> simp
@[simp] theorem noteFall_fault (f : Angle) : (noteFall f s).fault = s.fault := by
  unfold noteFall; try dsimp only
  (repeat' split) <;> simp
@[simp] theorem noteFall_synth (f : Angle) : (noteFall f s).synth = s.synth := by
  unfold noteFall; try dsimp only
  (repeat' split) <;> simp
@[simp] theorem noteFall_sw (f : Angle) : (noteFall f s).sw = s.sw := by
  unfold noteFall; try dsimp only
  (repeat' split) <;> simp
@[simp] theorem noteFall_meas (f : Angle) : (noteFall f s).meas = s.meas := by
  unfold noteFall; try dsimp only
  (repeat' split) <;> simp
@[simp] theorem noteFall_report (f : Angle) : (noteFall f s).report = s.report := by
  unfold noteFall; try dsimp only
  (repeat' split) <;> simp
@[simp] theorem noteFall_alert (f : Angle) : (noteFall f s).alert = s.alert := by
  unfold noteFall; try dsimp only
  (repeat' split) <;> simp

@[simp] theorem copyFrame_pending (n : Fin 8) (f : PeerFrame) : (copyFrame n f s).pending = s.pending := by
  unfold copyFrame; try dsimp only
  (repeat' split) <;> simp
@[simp] theorem copyFrame_state (n : Fin 8) (f : PeerFrame) : (copyFrame n f s).state = s.state := by
  unfold copyFrame; try dsimp only
  (repeat' split) <;> simp
@[simp] theorem copyFrame_inReset (n : Fin 8) (f : PeerFrame) : (copyFrame n f s).inReset = s.inReset := by
  unfold copyFrame; try dsimp only
  (repeat' split) <;> simp
@[simp] theorem copyFrame_setup (n : Fin 8) (f : PeerFrame) : (copyFrame n f s).setup = s.setup := by
  unfold copyFrame; try dsimp only
  (repeat' split) <;> simp
@[simp] theorem copyFrame_straps (n : Fin 8) (f : PeerFrame) : (copyFrame n f s).straps = s.straps := by
  unfold copyFrame; try dsimp only
  (repeat' split) <;> simp
@[simp] theorem copyFrame_lines (n : Fin 8) (f : PeerFrame) : (copyFrame n f s).lines = s.lines := by
  unfold copyFrame; try dsimp only
  (repeat' split) <;> simp
@[simp] theorem copyFrame_port (n : Fin 8) (f : PeerFrame) : (copyFrame n f s).port = s.port := by
  unfold copyFrame; try dsimp only
  (repeat' split) <;> simp
@[simp] theorem copyFrame_cue (n : Fin 8) (f : PeerFrame) : (copyFrame n f s).cue = s.cue := by
  unfold copyFrame; try dsimp only
  (repeat' split) <;> simp
@[simp] theorem copyFrame_group (n : Fin 8) (f : PeerFrame) : (copyFrame n f s).group = s.group := by
  unfold copyFrame; try dsimp only
  (repeat' split) <;> simp
@[simp] theorem copyFrame_pll (n : Fin 8) (f : PeerFrame) : (copyFrame n f s).pll = s.pll := by
  unfold copyFrame; try dsimp only
  (repeat' split) <;> simp
@[simp] theorem copyFrame_fault (n : Fin 8) (f : PeerFrame) : (copyFrame n f s).fault = s.fault := by
  unfold copyFrame; try dsimp only
  (repeat' split) <;> simp
@[simp] theorem copyFrame_synth (n : Fin 8) (f : PeerFrame) : (copyFrame n f s).synth = s.synth := by
  unfold copyFrame; try dsimp only
  (repeat' split) <;> simp
@[simp] theorem copyFrame_sw (n : Fin 8) (f : PeerFrame) : (copyFrame n f s).sw = s.sw := by
  unfold copyFrame; try dsimp only
  (repeat' split) <;> simp
@[simp] theorem copyFrame_meas (n : Fin 8) (f : PeerFrame) : (copyFrame n f s).meas = s.meas := by
  unfold copyFrame; try dsimp only
  (repeat' split) <;> simp

@[simp] theorem judgeSetup_pending (n : Fin 8) (f : PeerFrame) : (judgeSetup n f s).pending = s.pending := by
  unfold judgeSetup; try dsimp only
  (repeat' split) <;> simp
@[simp] theorem judgeSetup_state (n : Fin 8) (f : PeerFrame) : (judgeSetup n f s).state = s.state := by
  unfold judgeSetup; try dsimp only
  (repeat' split) <;> simp
@[simp] theorem judgeSetup_inReset (n : Fin 8) (f : PeerFrame) : (judgeSetup n f s).inReset = s.inReset := by
  unfold judgeSetup; try dsimp only
  (repeat' split) <;> simp
@[simp] theorem judgeSetup_setup (n : Fin 8) (f : PeerFrame) : (judgeSetup n f s).setup = s.setup := by
  unfold judgeSetup; try dsimp only
  (repeat' split) <;> simp
@[simp] theorem judgeSetup_straps (n : Fin 8) (f : PeerFrame) : (judgeSetup n f s).straps = s.straps := by
  unfold judgeSetup; try dsimp only
  (repeat' split) <;> simp
@[simp] theorem judgeSetup_lines (n : Fin 8) (f : PeerFrame) : (judgeSetup n f s).lines = s.lines := by
  unfold judgeSetup; try dsimp only
  (repeat' split) <;> simp
@[simp] theorem judgeSetup_port (n : Fin 8) (f : PeerFrame) : (judgeSetup n f s).port = s.port := by
  unfold judgeSetup; try dsimp only
  (repeat' split) <;> simp
@[simp] theorem judgeSetup_cue (n : Fin 8) (f : PeerFrame) : (judgeSetup n f s).cue = s.cue := by
  unfold judgeSetup; try dsimp only
  (repeat' split) <;> simp
@[simp] theorem judgeSetup_group (n : Fin 8) (f : PeerFrame) : (judgeSetup n f s).group = s.group := by
  unfold judgeSetup; try dsimp only
  (repeat' split) <;> simp
@[simp] theorem judgeSetup_pll (n : Fin 8) (f : PeerFrame) : (judgeSetup n f s).pll = s.pll := by
  unfold judgeSetup; try dsimp only
  (repeat' split) <;> simp
@[simp] theorem judgeSetup_fault (n : Fin 8) (f : PeerFrame) : (judgeSetup n f s).fault = s.fault := by
  unfold judgeSetup; try dsimp only
  (repeat' split) <;> simp
@[simp] theorem judgeSetup_synth (n : Fin 8) (f : PeerFrame) : (judgeSetup n f s).synth = s.synth := by
  unfold judgeSetup; try dsimp only
  (repeat' split) <;> simp
@[simp] theorem judgeSetup_sw (n : Fin 8) (f : PeerFrame) : (judgeSetup n f s).sw = s.sw := by
  unfold judgeSetup; try dsimp only
  (repeat' split) <;> simp
@[simp] theorem judgeSetup_meas (n : Fin 8) (f : PeerFrame) : (judgeSetup n f s).meas = s.meas := by
  unfold judgeSetup; try dsimp only
  (repeat' split) <;> simp

@[simp] theorem timeoutStep_pending : (timeoutStep s).pending = s.pending := by
  unfold timeoutStep; try dsimp only
  (repeat' split) <;> simp
@[simp] theorem timeoutStep_inReset : (timeoutStep s).inReset = s.inReset := by
  unfold timeoutStep; try dsimp only
  (repeat' split) <;> simp
@[simp] theorem timeoutStep_setup : (timeoutStep s).setup = s.setup := by
  unfold timeoutStep; try dsimp only
  (repeat' split) <;> simp
@[simp] theorem timeoutStep_straps : (timeoutStep s).straps = s.straps := by
  unfold timeoutStep; try dsimp only
  (repeat' split) <;> simp
@[simp] theorem timeoutStep_lines : (timeoutStep s).lines = s.lines := by
  unfold timeoutStep; try dsimp only
  (repeat' split) <;> simp
@[simp] theorem timeoutStep_port : (timeoutStep s).port = s.port := by
  unfold timeoutStep; try dsimp only
  (repeat' split) <;> simp

@[simp] theorem tagStep_pending (n : Fin 8) : (tagStep n s).pending = s.pending := by
  unfold tagStep; try dsimp only
  (repeat' split) <;> simp
@[simp] theorem tagStep_inReset (n : Fin 8) : (tagStep n s).inReset = s.inReset := by
  unfold tagStep; try dsimp only
  (repeat' split) <;> simp
@[simp] theorem tagStep_setup (n : Fin 8) : (tagStep n s).setup = s.setup := by
  unfold tagStep; try dsimp only
  (repeat' split) <;> simp
@[simp] theorem tagStep_straps (n : Fin 8) : (tagStep n s).straps = s.straps := by
  unfold tagStep; try dsimp only
  (repeat' split) <;> simp
@[simp] theorem tagStep_lines (n : Fin 8) : (tagStep n s).lines = s.lines := by
  unfold tagStep; try dsimp only
  (repeat' split) <;> simp
@[simp] theorem tagStep_port (n : Fin 8) : (tagStep n s).port = s.port := by
  unfold tagStep; try dsimp only
  (repeat' split) <;> simp

@[simp] theorem countTag_pending (n : Fin 8) (f : PeerFrame) : (countTag n f s).pending = s.pending := by
  unfold countTag; try dsimp only
  (repeat' split) <;> simp
@[simp] theorem countTag_state (n : Fin 8) (f : PeerFrame) : (countTag n f s).state = s.state := by
  unfold countTag; try dsimp only
  (repeat' split) <;> simp
@[simp] theorem countTag_inReset (n : Fin 8) (f : PeerFrame) : (countTag n f s).inReset = s.inReset := by
  unfold countTag; try dsimp only
  (repeat' split) <;> simp
@[simp] theorem countTag_setup (n : Fin 8) (f : PeerFrame) : (countTag n f s).setup = s.setup := by
  unfold countTag; try dsimp only
  (repeat' split) <;> simp
@[simp] theorem countTag_straps (n : Fin 8) (f : PeerFrame) : (countTag n f s).straps = s.straps := by
  unfold countTag; try dsimp only
  (repeat' split) <;> simp
@[simp] theorem countTag_lines (n : Fin 8) (f : PeerFrame) : (countTag n f s).lines = s.lines := by
  unfold countTag; try dsimp only
  (repeat' split) <;> simp
@[simp] theorem countTag_port (n : Fin 8) (f : PeerFrame) : (countTag n f s).port = s.port := by
  unfold countTag; try dsimp only
  (repeat' split) <;> simp
@[simp] theorem countTag_cue (n : Fin 8) (f : PeerFrame) : (countTag n f s).cue = s.cue := by
  unfold countTag; try dsimp only
  (repeat' split) <;> simp
@[simp] theorem countTag_pll (n : Fin 8) (f : PeerFrame) : (countTag n f s).pll = s.pll := by
  unfold countTag; try dsimp only
  (repeat' split) <;> simp
@[simp] theorem countTag_peer (n : Fin 8) (f : PeerFrame) : (countTag n f s).peer = s.peer := by
  unfold countTag; try dsimp only
  (repeat' split) <;> simp
@[simp] theorem countTag_fault (n : Fin 8) (f : PeerFrame) : (countTag n f s).fault = s.fault := by
  unfold countTag; try dsimp only
  (repeat' split) <;> simp
@[simp] theorem countTag_synth (n : Fin 8) (f : PeerFrame) : (countTag n f s).synth = s.synth := by
  unfold countTag; try dsimp only
  (repeat' split) <;> simp
@[simp] theorem countTag_sw (n : Fin 8) (f : PeerFrame) : (countTag n f s).sw = s.sw := by
  unfold countTag; try dsimp only
  (repeat' split) <;> simp
@[simp] theorem countTag_meas (n : Fin 8) (f : PeerFrame) : (countTag n f s).meas = s.meas := by
  unfold countTag; try dsimp only
  (repeat' split) <;> simp
@[simp] theorem countTag_report (n : Fin 8) (f : PeerFrame) : (countTag n f s).report = s.report := by
  unfold countTag; try dsimp only
  (repeat' split) <;> simp
@[simp] theorem countTag_alert (n : Fin 8) (f : PeerFrame) : (countTag n f s).alert = s.alert := by
  unfold countTag; try dsimp only
  (repeat' split) <;> simp

@[simp] theorem nameOrigin_pending (n : Fin 8) (f : PeerFrame) : (nameOrigin n f s).pending = s.pending := by
  unfold nameOrigin; try dsimp only
  (repeat' split) <;> simp
@[simp] theorem nameOrigin_state (n : Fin 8) (f : PeerFrame) : (nameOrigin n f s).state = s.state := by
  unfold nameOrigin; try dsimp only
  (repeat' split) <;> simp
@[simp] theorem nameOrigin_inReset (n : Fin 8) (f : PeerFrame) : (nameOrigin n f s).inReset = s.inReset := by
  unfold nameOrigin; try dsimp only
  (repeat' split) <;> simp
@[simp] theorem nameOrigin_setup (n : Fin 8) (f : PeerFrame) : (nameOrigin n f s).setup = s.setup := by
  unfold nameOrigin; try dsimp only
  (repeat' split) <;> simp
@[simp] theorem nameOrigin_straps (n : Fin 8) (f : PeerFrame) : (nameOrigin n f s).straps = s.straps := by
  unfold nameOrigin; try dsimp only
  (repeat' split) <;> simp
@[simp] theorem nameOrigin_lines (n : Fin 8) (f : PeerFrame) : (nameOrigin n f s).lines = s.lines := by
  unfold nameOrigin; try dsimp only
  (repeat' split) <;> simp
@[simp] theorem nameOrigin_port (n : Fin 8) (f : PeerFrame) : (nameOrigin n f s).port = s.port := by
  unfold nameOrigin; try dsimp only
  (repeat' split) <;> simp
@[simp] theorem nameOrigin_cue (n : Fin 8) (f : PeerFrame) : (nameOrigin n f s).cue = s.cue := by
  unfold nameOrigin; try dsimp only
  (repeat' split) <;> simp
@[simp] theorem nameOrigin_group (n : Fin 8) (f : PeerFrame) : (nameOrigin n f s).group = s.group := by
  unfold nameOrigin; try dsimp only
  (repeat' split) <;> simp
@[simp] theorem nameOrigin_pll (n : Fin 8) (f : PeerFrame) : (nameOrigin n f s).pll = s.pll := by
  unfold nameOrigin; try dsimp only
  (repeat' split) <;> simp
@[simp] theorem nameOrigin_peer (n : Fin 8) (f : PeerFrame) : (nameOrigin n f s).peer = s.peer := by
  unfold nameOrigin; try dsimp only
  (repeat' split) <;> simp
@[simp] theorem nameOrigin_synth (n : Fin 8) (f : PeerFrame) : (nameOrigin n f s).synth = s.synth := by
  unfold nameOrigin; try dsimp only
  (repeat' split) <;> simp
@[simp] theorem nameOrigin_sw (n : Fin 8) (f : PeerFrame) : (nameOrigin n f s).sw = s.sw := by
  unfold nameOrigin; try dsimp only
  (repeat' split) <;> simp
@[simp] theorem nameOrigin_meas (n : Fin 8) (f : PeerFrame) : (nameOrigin n f s).meas = s.meas := by
  unfold nameOrigin; try dsimp only
  (repeat' split) <;> simp
@[simp] theorem nameOrigin_report (n : Fin 8) (f : PeerFrame) : (nameOrigin n f s).report = s.report := by
  unfold nameOrigin; try dsimp only
  (repeat' split) <;> simp
@[simp] theorem nameOrigin_alert (n : Fin 8) (f : PeerFrame) : (nameOrigin n f s).alert = s.alert := by
  unfold nameOrigin; try dsimp only
  (repeat' split) <;> simp

@[simp] theorem checkShares_pending : (checkShares s).pending = s.pending := by
  unfold checkShares; try dsimp only
  (repeat' split) <;> simp
@[simp] theorem checkShares_state : (checkShares s).state = s.state := by
  unfold checkShares; try dsimp only
  (repeat' split) <;> simp
@[simp] theorem checkShares_inReset : (checkShares s).inReset = s.inReset := by
  unfold checkShares; try dsimp only
  (repeat' split) <;> simp
@[simp] theorem checkShares_setup : (checkShares s).setup = s.setup := by
  unfold checkShares; try dsimp only
  (repeat' split) <;> simp
@[simp] theorem checkShares_straps : (checkShares s).straps = s.straps := by
  unfold checkShares; try dsimp only
  (repeat' split) <;> simp
@[simp] theorem checkShares_lines : (checkShares s).lines = s.lines := by
  unfold checkShares; try dsimp only
  (repeat' split) <;> simp
@[simp] theorem checkShares_port : (checkShares s).port = s.port := by
  unfold checkShares; try dsimp only
  (repeat' split) <;> simp
@[simp] theorem checkShares_cue : (checkShares s).cue = s.cue := by
  unfold checkShares; try dsimp only
  (repeat' split) <;> simp
@[simp] theorem checkShares_group : (checkShares s).group = s.group := by
  unfold checkShares; try dsimp only
  (repeat' split) <;> simp
@[simp] theorem checkShares_pll : (checkShares s).pll = s.pll := by
  unfold checkShares; try dsimp only
  (repeat' split) <;> simp
@[simp] theorem checkShares_fault : (checkShares s).fault = s.fault := by
  unfold checkShares; try dsimp only
  (repeat' split) <;> simp
@[simp] theorem checkShares_synth : (checkShares s).synth = s.synth := by
  unfold checkShares; try dsimp only
  (repeat' split) <;> simp
@[simp] theorem checkShares_sw : (checkShares s).sw = s.sw := by
  unfold checkShares; try dsimp only
  (repeat' split) <;> simp
@[simp] theorem checkShares_meas : (checkShares s).meas = s.meas := by
  unfold checkShares; try dsimp only
  (repeat' split) <;> simp
@[simp] theorem checkShares_report : (checkShares s).report = s.report := by
  unfold checkShares; try dsimp only
  (repeat' split) <;> simp
@[simp] theorem checkShares_alert : (checkShares s).alert = s.alert := by
  unfold checkShares; try dsimp only
  (repeat' split) <;> simp

@[simp] theorem reportShare_pending (n : Fin 8) : (reportShare n s).pending = s.pending := by
  unfold reportShare; try dsimp only
  (repeat' split) <;> simp
@[simp] theorem reportShare_state (n : Fin 8) : (reportShare n s).state = s.state := by
  unfold reportShare; try dsimp only
  (repeat' split) <;> simp
@[simp] theorem reportShare_inReset (n : Fin 8) : (reportShare n s).inReset = s.inReset := by
  unfold reportShare; try dsimp only
  (repeat' split) <;> simp
@[simp] theorem reportShare_setup (n : Fin 8) : (reportShare n s).setup = s.setup := by
  unfold reportShare; try dsimp only
  (repeat' split) <;> simp
@[simp] theorem reportShare_straps (n : Fin 8) : (reportShare n s).straps = s.straps := by
  unfold reportShare; try dsimp only
  (repeat' split) <;> simp
@[simp] theorem reportShare_lines (n : Fin 8) : (reportShare n s).lines = s.lines := by
  unfold reportShare; try dsimp only
  (repeat' split) <;> simp
@[simp] theorem reportShare_port (n : Fin 8) : (reportShare n s).port = s.port := by
  unfold reportShare; try dsimp only
  (repeat' split) <;> simp
@[simp] theorem reportShare_cue (n : Fin 8) : (reportShare n s).cue = s.cue := by
  unfold reportShare; try dsimp only
  (repeat' split) <;> simp
@[simp] theorem reportShare_group (n : Fin 8) : (reportShare n s).group = s.group := by
  unfold reportShare; try dsimp only
  (repeat' split) <;> simp
@[simp] theorem reportShare_pll (n : Fin 8) : (reportShare n s).pll = s.pll := by
  unfold reportShare; try dsimp only
  (repeat' split) <;> simp
@[simp] theorem reportShare_fault (n : Fin 8) : (reportShare n s).fault = s.fault := by
  unfold reportShare; try dsimp only
  (repeat' split) <;> simp
@[simp] theorem reportShare_synth (n : Fin 8) : (reportShare n s).synth = s.synth := by
  unfold reportShare; try dsimp only
  (repeat' split) <;> simp
@[simp] theorem reportShare_sw (n : Fin 8) : (reportShare n s).sw = s.sw := by
  unfold reportShare; try dsimp only
  (repeat' split) <;> simp
@[simp] theorem reportShare_meas (n : Fin 8) : (reportShare n s).meas = s.meas := by
  unfold reportShare; try dsimp only
  (repeat' split) <;> simp

@[simp] theorem shareStep_pending (n : Fin 8) : (shareStep n s).pending = s.pending := by
  unfold shareStep; try dsimp only
  (repeat' split) <;> simp
@[simp] theorem shareStep_state (n : Fin 8) : (shareStep n s).state = s.state := by
  unfold shareStep; try dsimp only
  (repeat' split) <;> simp
@[simp] theorem shareStep_inReset (n : Fin 8) : (shareStep n s).inReset = s.inReset := by
  unfold shareStep; try dsimp only
  (repeat' split) <;> simp
@[simp] theorem shareStep_setup (n : Fin 8) : (shareStep n s).setup = s.setup := by
  unfold shareStep; try dsimp only
  (repeat' split) <;> simp
@[simp] theorem shareStep_straps (n : Fin 8) : (shareStep n s).straps = s.straps := by
  unfold shareStep; try dsimp only
  (repeat' split) <;> simp
@[simp] theorem shareStep_lines (n : Fin 8) : (shareStep n s).lines = s.lines := by
  unfold shareStep; try dsimp only
  (repeat' split) <;> simp
@[simp] theorem shareStep_port (n : Fin 8) : (shareStep n s).port = s.port := by
  unfold shareStep; try dsimp only
  (repeat' split) <;> simp
@[simp] theorem shareStep_cue (n : Fin 8) : (shareStep n s).cue = s.cue := by
  unfold shareStep; try dsimp only
  (repeat' split) <;> simp
@[simp] theorem shareStep_group (n : Fin 8) : (shareStep n s).group = s.group := by
  unfold shareStep; try dsimp only
  (repeat' split) <;> simp
@[simp] theorem shareStep_pll (n : Fin 8) : (shareStep n s).pll = s.pll := by
  unfold shareStep; try dsimp only
  (repeat' split) <;> simp
@[simp] theorem shareStep_fault (n : Fin 8) : (shareStep n s).fault = s.fault := by
  unfold shareStep; try dsimp only
  (repeat' split) <;> simp
@[simp] theorem shareStep_synth (n : Fin 8) : (shareStep n s).synth = s.synth := by
  unfold shareStep; try dsimp only
  (repeat' split) <;> simp
@[simp] theorem shareStep_sw (n : Fin 8) : (shareStep n s).sw = s.sw := by
  unfold shareStep; try dsimp only
  (repeat' split) <;> simp
@[simp] theorem shareStep_meas (n : Fin 8) : (shareStep n s).meas = s.meas := by
  unfold shareStep; try dsimp only
  (repeat' split) <;> simp

@[simp] theorem leaveGroup_pending : (leaveGroup s).pending = s.pending := by
  unfold leaveGroup; try dsimp only
  (repeat' split) <;> simp
@[simp] theorem leaveGroup_inReset : (leaveGroup s).inReset = s.inReset := by
  unfold leaveGroup; try dsimp only
  (repeat' split) <;> simp
@[simp] theorem leaveGroup_setup : (leaveGroup s).setup = s.setup := by
  unfold leaveGroup; try dsimp only
  (repeat' split) <;> simp
@[simp] theorem leaveGroup_straps : (leaveGroup s).straps = s.straps := by
  unfold leaveGroup; try dsimp only
  (repeat' split) <;> simp
@[simp] theorem leaveGroup_lines : (leaveGroup s).lines = s.lines := by
  unfold leaveGroup; try dsimp only
  (repeat' split) <;> simp
@[simp] theorem leaveGroup_port : (leaveGroup s).port = s.port := by
  unfold leaveGroup; try dsimp only
  (repeat' split) <;> simp
@[simp] theorem leaveGroup_cue : (leaveGroup s).cue = s.cue := by
  unfold leaveGroup; try dsimp only
  (repeat' split) <;> simp
@[simp] theorem leaveGroup_sw : (leaveGroup s).sw = s.sw := by
  unfold leaveGroup; try dsimp only
  (repeat' split) <;> simp
@[simp] theorem leaveGroup_report : (leaveGroup s).report = s.report := by
  unfold leaveGroup; try dsimp only
  (repeat' split) <;> simp

@[simp] theorem armGate_pending : (armGate s).pending = s.pending := by
  unfold armGate; try dsimp only
  (repeat' split) <;> simp
@[simp] theorem armGate_inReset : (armGate s).inReset = s.inReset := by
  unfold armGate; try dsimp only
  (repeat' split) <;> simp
@[simp] theorem armGate_setup : (armGate s).setup = s.setup := by
  unfold armGate; try dsimp only
  (repeat' split) <;> simp
@[simp] theorem armGate_straps : (armGate s).straps = s.straps := by
  unfold armGate; try dsimp only
  (repeat' split) <;> simp
@[simp] theorem armGate_lines : (armGate s).lines = s.lines := by
  unfold armGate; try dsimp only
  (repeat' split) <;> simp
@[simp] theorem armGate_port : (armGate s).port = s.port := by
  unfold armGate; try dsimp only
  (repeat' split) <;> simp
@[simp] theorem armGate_cue : (armGate s).cue = s.cue := by
  unfold armGate; try dsimp only
  (repeat' split) <;> simp
@[simp] theorem armGate_pll : (armGate s).pll = s.pll := by
  unfold armGate; try dsimp only
  (repeat' split) <;> simp
@[simp] theorem armGate_peer : (armGate s).peer = s.peer := by
  unfold armGate; try dsimp only
  (repeat' split) <;> simp
@[simp] theorem armGate_fault : (armGate s).fault = s.fault := by
  unfold armGate; try dsimp only
  (repeat' split) <;> simp
@[simp] theorem armGate_synth : (armGate s).synth = s.synth := by
  unfold armGate; try dsimp only
  (repeat' split) <;> simp
@[simp] theorem armGate_sw : (armGate s).sw = s.sw := by
  unfold armGate; try dsimp only
  (repeat' split) <;> simp
@[simp] theorem armGate_meas : (armGate s).meas = s.meas := by
  unfold armGate; try dsimp only
  (repeat' split) <;> simp
@[simp] theorem armGate_report : (armGate s).report = s.report := by
  unfold armGate; try dsimp only
  (repeat' split) <;> simp
@[simp] theorem armGate_alert : (armGate s).alert = s.alert := by
  unfold armGate; try dsimp only
  (repeat' split) <;> simp

@[simp] theorem disarmGate_pending : (disarmGate s).pending = s.pending := by
  unfold disarmGate; try dsimp only
  (repeat' split) <;> simp
@[simp] theorem disarmGate_inReset : (disarmGate s).inReset = s.inReset := by
  unfold disarmGate; try dsimp only
  (repeat' split) <;> simp
@[simp] theorem disarmGate_setup : (disarmGate s).setup = s.setup := by
  unfold disarmGate; try dsimp only
  (repeat' split) <;> simp
@[simp] theorem disarmGate_straps : (disarmGate s).straps = s.straps := by
  unfold disarmGate; try dsimp only
  (repeat' split) <;> simp
@[simp] theorem disarmGate_lines : (disarmGate s).lines = s.lines := by
  unfold disarmGate; try dsimp only
  (repeat' split) <;> simp
@[simp] theorem disarmGate_port : (disarmGate s).port = s.port := by
  unfold disarmGate; try dsimp only
  (repeat' split) <;> simp
@[simp] theorem disarmGate_cue : (disarmGate s).cue = s.cue := by
  unfold disarmGate; try dsimp only
  (repeat' split) <;> simp
@[simp] theorem disarmGate_pll : (disarmGate s).pll = s.pll := by
  unfold disarmGate; try dsimp only
  (repeat' split) <;> simp
@[simp] theorem disarmGate_peer : (disarmGate s).peer = s.peer := by
  unfold disarmGate; try dsimp only
  (repeat' split) <;> simp
@[simp] theorem disarmGate_fault : (disarmGate s).fault = s.fault := by
  unfold disarmGate; try dsimp only
  (repeat' split) <;> simp
@[simp] theorem disarmGate_synth : (disarmGate s).synth = s.synth := by
  unfold disarmGate; try dsimp only
  (repeat' split) <;> simp
@[simp] theorem disarmGate_sw : (disarmGate s).sw = s.sw := by
  unfold disarmGate; try dsimp only
  (repeat' split) <;> simp
@[simp] theorem disarmGate_meas : (disarmGate s).meas = s.meas := by
  unfold disarmGate; try dsimp only
  (repeat' split) <;> simp
@[simp] theorem disarmGate_report : (disarmGate s).report = s.report := by
  unfold disarmGate; try dsimp only
  (repeat' split) <;> simp
@[simp] theorem disarmGate_alert : (disarmGate s).alert = s.alert := by
  unfold disarmGate; try dsimp only
  (repeat' split) <;> simp

@[simp] theorem openRun_pending : (openRun s).pending = s.pending := by
  unfold openRun; try dsimp only
  simp
@[simp] theorem openRun_inReset : (openRun s).inReset = s.inReset := by
  unfold openRun; try dsimp only
  simp
@[simp] theorem openRun_setup : (openRun s).setup = s.setup := by
  unfold openRun; try dsimp only
  simp
@[simp] theorem openRun_straps : (openRun s).straps = s.straps := by
  unfold openRun; try dsimp only
  simp
@[simp] theorem openRun_lines : (openRun s).lines = s.lines := by
  unfold openRun; try dsimp only
  simp
@[simp] theorem openRun_port : (openRun s).port = s.port := by
  unfold openRun; try dsimp only
  simp
@[simp] theorem openRun_cue : (openRun s).cue = s.cue := by
  unfold openRun; try dsimp only
  simp
@[simp] theorem openRun_pll : (openRun s).pll = s.pll := by
  unfold openRun; try dsimp only
  simp
@[simp] theorem openRun_fault : (openRun s).fault = s.fault := by
  unfold openRun; try dsimp only
  simp
@[simp] theorem openRun_sw : (openRun s).sw = s.sw := by
  unfold openRun; try dsimp only
  simp

@[simp] theorem endPulse_pending : (endPulse s).pending = s.pending := by
  unfold endPulse; try dsimp only
  (repeat' split) <;> simp
@[simp] theorem endPulse_state : (endPulse s).state = s.state := by
  unfold endPulse; try dsimp only
  (repeat' split) <;> simp
@[simp] theorem endPulse_inReset : (endPulse s).inReset = s.inReset := by
  unfold endPulse; try dsimp only
  (repeat' split) <;> simp
@[simp] theorem endPulse_setup : (endPulse s).setup = s.setup := by
  unfold endPulse; try dsimp only
  (repeat' split) <;> simp
@[simp] theorem endPulse_straps : (endPulse s).straps = s.straps := by
  unfold endPulse; try dsimp only
  (repeat' split) <;> simp
@[simp] theorem endPulse_lines : (endPulse s).lines = s.lines := by
  unfold endPulse; try dsimp only
  (repeat' split) <;> simp
@[simp] theorem endPulse_port : (endPulse s).port = s.port := by
  unfold endPulse; try dsimp only
  (repeat' split) <;> simp
@[simp] theorem endPulse_cue : (endPulse s).cue = s.cue := by
  unfold endPulse; try dsimp only
  (repeat' split) <;> simp
@[simp] theorem endPulse_pll : (endPulse s).pll = s.pll := by
  unfold endPulse; try dsimp only
  (repeat' split) <;> simp
@[simp] theorem endPulse_peer : (endPulse s).peer = s.peer := by
  unfold endPulse; try dsimp only
  (repeat' split) <;> simp
@[simp] theorem endPulse_fault : (endPulse s).fault = s.fault := by
  unfold endPulse; try dsimp only
  (repeat' split) <;> simp
@[simp] theorem endPulse_synth : (endPulse s).synth = s.synth := by
  unfold endPulse; try dsimp only
  (repeat' split) <;> simp
@[simp] theorem endPulse_sw : (endPulse s).sw = s.sw := by
  unfold endPulse; try dsimp only
  (repeat' split) <;> simp
@[simp] theorem endPulse_meas : (endPulse s).meas = s.meas := by
  unfold endPulse; try dsimp only
  (repeat' split) <;> simp
@[simp] theorem endPulse_report : (endPulse s).report = s.report := by
  unfold endPulse; try dsimp only
  (repeat' split) <;> simp
@[simp] theorem endPulse_alert : (endPulse s).alert = s.alert := by
  unfold endPulse; try dsimp only
  (repeat' split) <;> simp

@[simp] theorem offerOutstanding_pending : (offerOutstanding s).pending = s.pending := by
  unfold offerOutstanding; try dsimp only
  (repeat' split) <;> simp
@[simp] theorem offerOutstanding_state : (offerOutstanding s).state = s.state := by
  unfold offerOutstanding; try dsimp only
  (repeat' split) <;> simp
@[simp] theorem offerOutstanding_inReset : (offerOutstanding s).inReset = s.inReset := by
  unfold offerOutstanding; try dsimp only
  (repeat' split) <;> simp
@[simp] theorem offerOutstanding_setup : (offerOutstanding s).setup = s.setup := by
  unfold offerOutstanding; try dsimp only
  (repeat' split) <;> simp
@[simp] theorem offerOutstanding_straps : (offerOutstanding s).straps = s.straps := by
  unfold offerOutstanding; try dsimp only
  (repeat' split) <;> simp
@[simp] theorem offerOutstanding_lines : (offerOutstanding s).lines = s.lines := by
  unfold offerOutstanding; try dsimp only
  (repeat' split) <;> simp
@[simp] theorem offerOutstanding_port : (offerOutstanding s).port = s.port := by
  unfold offerOutstanding; try dsimp only
  (repeat' split) <;> simp
@[simp] theorem offerOutstanding_cue : (offerOutstanding s).cue = s.cue := by
  unfold offerOutstanding; try dsimp only
  (repeat' split) <;> simp
@[simp] theorem offerOutstanding_group : (offerOutstanding s).group = s.group := by
  unfold offerOutstanding; try dsimp only
  (repeat' split) <;> simp
@[simp] theorem offerOutstanding_pll : (offerOutstanding s).pll = s.pll := by
  unfold offerOutstanding; try dsimp only
  (repeat' split) <;> simp
@[simp] theorem offerOutstanding_peer : (offerOutstanding s).peer = s.peer := by
  unfold offerOutstanding; try dsimp only
  (repeat' split) <;> simp
@[simp] theorem offerOutstanding_synth : (offerOutstanding s).synth = s.synth := by
  unfold offerOutstanding; try dsimp only
  (repeat' split) <;> simp
@[simp] theorem offerOutstanding_sw : (offerOutstanding s).sw = s.sw := by
  unfold offerOutstanding; try dsimp only
  (repeat' split) <;> simp
@[simp] theorem offerOutstanding_meas : (offerOutstanding s).meas = s.meas := by
  unfold offerOutstanding; try dsimp only
  (repeat' split) <;> simp

@[simp] theorem clearFault_pending : (clearFault s).pending = s.pending := by
  unfold clearFault; try dsimp only
  simp
@[simp] theorem clearFault_inReset : (clearFault s).inReset = s.inReset := by
  unfold clearFault; try dsimp only
  simp
@[simp] theorem clearFault_setup : (clearFault s).setup = s.setup := by
  unfold clearFault; try dsimp only
  simp
@[simp] theorem clearFault_straps : (clearFault s).straps = s.straps := by
  unfold clearFault; try dsimp only
  simp
@[simp] theorem clearFault_lines : (clearFault s).lines = s.lines := by
  unfold clearFault; try dsimp only
  simp
@[simp] theorem clearFault_port : (clearFault s).port = s.port := by
  unfold clearFault; try dsimp only
  simp
@[simp] theorem clearFault_cue : (clearFault s).cue = s.cue := by
  unfold clearFault; try dsimp only
  simp
@[simp] theorem clearFault_group : (clearFault s).group = s.group := by
  unfold clearFault; try dsimp only
  simp
@[simp] theorem clearFault_pll : (clearFault s).pll = s.pll := by
  unfold clearFault; try dsimp only
  simp
@[simp] theorem clearFault_synth : (clearFault s).synth = s.synth := by
  unfold clearFault; try dsimp only
  simp
@[simp] theorem clearFault_sw : (clearFault s).sw = s.sw := by
  unfold clearFault; try dsimp only
  simp
@[simp] theorem clearFault_meas : (clearFault s).meas = s.meas := by
  unfold clearFault; try dsimp only
  simp

@[simp] theorem recordStep_pending : (recordStep s).pending = s.pending := by
  unfold recordStep; try dsimp only
  (repeat' split) <;> simp
@[simp] theorem recordStep_state : (recordStep s).state = s.state := by
  unfold recordStep; try dsimp only
  (repeat' split) <;> simp
@[simp] theorem recordStep_inReset : (recordStep s).inReset = s.inReset := by
  unfold recordStep; try dsimp only
  (repeat' split) <;> simp
@[simp] theorem recordStep_setup : (recordStep s).setup = s.setup := by
  unfold recordStep; try dsimp only
  (repeat' split) <;> simp
@[simp] theorem recordStep_straps : (recordStep s).straps = s.straps := by
  unfold recordStep; try dsimp only
  (repeat' split) <;> simp
@[simp] theorem recordStep_lines : (recordStep s).lines = s.lines := by
  unfold recordStep; try dsimp only
  (repeat' split) <;> simp
@[simp] theorem recordStep_port : (recordStep s).port = s.port := by
  unfold recordStep; try dsimp only
  (repeat' split) <;> simp
@[simp] theorem recordStep_cue : (recordStep s).cue = s.cue := by
  unfold recordStep; try dsimp only
  (repeat' split) <;> simp
@[simp] theorem recordStep_group : (recordStep s).group = s.group := by
  unfold recordStep; try dsimp only
  (repeat' split) <;> simp
@[simp] theorem recordStep_pll : (recordStep s).pll = s.pll := by
  unfold recordStep; try dsimp only
  (repeat' split) <;> simp
@[simp] theorem recordStep_peer : (recordStep s).peer = s.peer := by
  unfold recordStep; try dsimp only
  (repeat' split) <;> simp
@[simp] theorem recordStep_synth : (recordStep s).synth = s.synth := by
  unfold recordStep; try dsimp only
  (repeat' split) <;> simp
@[simp] theorem recordStep_sw : (recordStep s).sw = s.sw := by
  unfold recordStep; try dsimp only
  (repeat' split) <;> simp
@[simp] theorem recordStep_meas : (recordStep s).meas = s.meas := by
  unfold recordStep; try dsimp only
  (repeat' split) <;> simp

@[simp] theorem beginRunOutput_pending : (beginRunOutput s).pending = s.pending := by
  unfold beginRunOutput; try dsimp only
  (repeat' split) <;> simp
@[simp] theorem beginRunOutput_state : (beginRunOutput s).state = s.state := by
  unfold beginRunOutput; try dsimp only
  (repeat' split) <;> simp
@[simp] theorem beginRunOutput_inReset : (beginRunOutput s).inReset = s.inReset := by
  unfold beginRunOutput; try dsimp only
  (repeat' split) <;> simp
@[simp] theorem beginRunOutput_setup : (beginRunOutput s).setup = s.setup := by
  unfold beginRunOutput; try dsimp only
  (repeat' split) <;> simp
@[simp] theorem beginRunOutput_straps : (beginRunOutput s).straps = s.straps := by
  unfold beginRunOutput; try dsimp only
  (repeat' split) <;> simp
@[simp] theorem beginRunOutput_lines : (beginRunOutput s).lines = s.lines := by
  unfold beginRunOutput; try dsimp only
  (repeat' split) <;> simp
@[simp] theorem beginRunOutput_port : (beginRunOutput s).port = s.port := by
  unfold beginRunOutput; try dsimp only
  (repeat' split) <;> simp
@[simp] theorem beginRunOutput_cue : (beginRunOutput s).cue = s.cue := by
  unfold beginRunOutput; try dsimp only
  (repeat' split) <;> simp
@[simp] theorem beginRunOutput_group : (beginRunOutput s).group = s.group := by
  unfold beginRunOutput; try dsimp only
  (repeat' split) <;> simp
@[simp] theorem beginRunOutput_pll : (beginRunOutput s).pll = s.pll := by
  unfold beginRunOutput; try dsimp only
  (repeat' split) <;> simp
@[simp] theorem beginRunOutput_peer : (beginRunOutput s).peer = s.peer := by
  unfold beginRunOutput; try dsimp only
  (repeat' split) <;> simp
@[simp] theorem beginRunOutput_fault : (beginRunOutput s).fault = s.fault := by
  unfold beginRunOutput; try dsimp only
  (repeat' split) <;> simp
@[simp] theorem beginRunOutput_report : (beginRunOutput s).report = s.report := by
  unfold beginRunOutput; try dsimp only
  (repeat' split) <;> simp
@[simp] theorem beginRunOutput_alert : (beginRunOutput s).alert = s.alert := by
  unfold beginRunOutput; try dsimp only
  (repeat' split) <;> simp

@[simp] theorem stepRamp_pending : (stepRamp s).pending = s.pending := by
  unfold stepRamp; try dsimp only
  (repeat' split) <;> simp
@[simp] theorem stepRamp_state : (stepRamp s).state = s.state := by
  unfold stepRamp; try dsimp only
  (repeat' split) <;> simp
@[simp] theorem stepRamp_inReset : (stepRamp s).inReset = s.inReset := by
  unfold stepRamp; try dsimp only
  (repeat' split) <;> simp
@[simp] theorem stepRamp_setup : (stepRamp s).setup = s.setup := by
  unfold stepRamp; try dsimp only
  (repeat' split) <;> simp
@[simp] theorem stepRamp_straps : (stepRamp s).straps = s.straps := by
  unfold stepRamp; try dsimp only
  (repeat' split) <;> simp
@[simp] theorem stepRamp_lines : (stepRamp s).lines = s.lines := by
  unfold stepRamp; try dsimp only
  (repeat' split) <;> simp
@[simp] theorem stepRamp_port : (stepRamp s).port = s.port := by
  unfold stepRamp; try dsimp only
  (repeat' split) <;> simp
@[simp] theorem stepRamp_cue : (stepRamp s).cue = s.cue := by
  unfold stepRamp; try dsimp only
  (repeat' split) <;> simp
@[simp] theorem stepRamp_group : (stepRamp s).group = s.group := by
  unfold stepRamp; try dsimp only
  (repeat' split) <;> simp
@[simp] theorem stepRamp_pll : (stepRamp s).pll = s.pll := by
  unfold stepRamp; try dsimp only
  (repeat' split) <;> simp
@[simp] theorem stepRamp_peer : (stepRamp s).peer = s.peer := by
  unfold stepRamp; try dsimp only
  (repeat' split) <;> simp
@[simp] theorem stepRamp_fault : (stepRamp s).fault = s.fault := by
  unfold stepRamp; try dsimp only
  (repeat' split) <;> simp
@[simp] theorem stepRamp_sw : (stepRamp s).sw = s.sw := by
  unfold stepRamp; try dsimp only
  (repeat' split) <;> simp
@[simp] theorem stepRamp_meas : (stepRamp s).meas = s.meas := by
  unfold stepRamp; try dsimp only
  (repeat' split) <;> simp
@[simp] theorem stepRamp_report : (stepRamp s).report = s.report := by
  unfold stepRamp; try dsimp only
  (repeat' split) <;> simp
@[simp] theorem stepRamp_alert : (stepRamp s).alert = s.alert := by
  unfold stepRamp; try dsimp only
  (repeat' split) <;> simp

@[simp] theorem slotBegin_pending : (slotBegin s).pending = s.pending := by
  unfold slotBegin; try dsimp only
  (repeat' split) <;> simp
@[simp] theorem slotBegin_state : (slotBegin s).state = s.state := by
  unfold slotBegin; try dsimp only
  (repeat' split) <;> simp
@[simp] theorem slotBegin_inReset : (slotBegin s).inReset = s.inReset := by
  unfold slotBegin; try dsimp only
  (repeat' split) <;> simp
@[simp] theorem slotBegin_setup : (slotBegin s).setup = s.setup := by
  unfold slotBegin; try dsimp only
  (repeat' split) <;> simp
@[simp] theorem slotBegin_straps : (slotBegin s).straps = s.straps := by
  unfold slotBegin; try dsimp only
  (repeat' split) <;> simp
@[simp] theorem slotBegin_lines : (slotBegin s).lines = s.lines := by
  unfold slotBegin; try dsimp only
  (repeat' split) <;> simp
@[simp] theorem slotBegin_port : (slotBegin s).port = s.port := by
  unfold slotBegin; try dsimp only
  (repeat' split) <;> simp
@[simp] theorem slotBegin_cue : (slotBegin s).cue = s.cue := by
  unfold slotBegin; try dsimp only
  (repeat' split) <;> simp
@[simp] theorem slotBegin_group : (slotBegin s).group = s.group := by
  unfold slotBegin; try dsimp only
  (repeat' split) <;> simp
@[simp] theorem slotBegin_pll : (slotBegin s).pll = s.pll := by
  unfold slotBegin; try dsimp only
  (repeat' split) <;> simp
@[simp] theorem slotBegin_fault : (slotBegin s).fault = s.fault := by
  unfold slotBegin; try dsimp only
  (repeat' split) <;> simp
@[simp] theorem slotBegin_synth : (slotBegin s).synth = s.synth := by
  unfold slotBegin; try dsimp only
  (repeat' split) <;> simp
@[simp] theorem slotBegin_sw : (slotBegin s).sw = s.sw := by
  unfold slotBegin; try dsimp only
  (repeat' split) <;> simp
@[simp] theorem slotBegin_meas : (slotBegin s).meas = s.meas := by
  unfold slotBegin; try dsimp only
  (repeat' split) <;> simp
@[simp] theorem slotBegin_report : (slotBegin s).report = s.report := by
  unfold slotBegin; try dsimp only
  (repeat' split) <;> simp
@[simp] theorem slotBegin_alert : (slotBegin s).alert = s.alert := by
  unfold slotBegin; try dsimp only
  (repeat' split) <;> simp

@[simp] theorem countCycle_pending : (countCycle s).pending = s.pending := by
  unfold countCycle; try dsimp only
  (repeat' split) <;> simp
@[simp] theorem countCycle_state : (countCycle s).state = s.state := by
  unfold countCycle; try dsimp only
  (repeat' split) <;> simp
@[simp] theorem countCycle_inReset : (countCycle s).inReset = s.inReset := by
  unfold countCycle; try dsimp only
  (repeat' split) <;> simp
@[simp] theorem countCycle_setup : (countCycle s).setup = s.setup := by
  unfold countCycle; try dsimp only
  (repeat' split) <;> simp
@[simp] theorem countCycle_straps : (countCycle s).straps = s.straps := by
  unfold countCycle; try dsimp only
  (repeat' split) <;> simp
@[simp] theorem countCycle_lines : (countCycle s).lines = s.lines := by
  unfold countCycle; try dsimp only
  (repeat' split) <;> simp
@[simp] theorem countCycle_port : (countCycle s).port = s.port := by
  unfold countCycle; try dsimp only
  (repeat' split) <;> simp
@[simp] theorem countCycle_cue : (countCycle s).cue = s.cue := by
  unfold countCycle; try dsimp only
  (repeat' split) <;> simp
@[simp] theorem countCycle_pll : (countCycle s).pll = s.pll := by
  unfold countCycle; try dsimp only
  (repeat' split) <;> simp
@[simp] theorem countCycle_peer : (countCycle s).peer = s.peer := by
  unfold countCycle; try dsimp only
  (repeat' split) <;> simp
@[simp] theorem countCycle_fault : (countCycle s).fault = s.fault := by
  unfold countCycle; try dsimp only
  (repeat' split) <;> simp
@[simp] theorem countCycle_synth : (countCycle s).synth = s.synth := by
  unfold countCycle; try dsimp only
  (repeat' split) <;> simp
@[simp] theorem countCycle_sw : (countCycle s).sw = s.sw := by
  unfold countCycle; try dsimp only
  (repeat' split) <;> simp
@[simp] theorem countCycle_meas : (countCycle s).meas = s.meas := by
  unfold countCycle; try dsimp only
  (repeat' split) <;> simp
@[simp] theorem countCycle_report : (countCycle s).report = s.report := by
  unfold countCycle; try dsimp only
  (repeat' split) <;> simp
@[simp] theorem countCycle_alert : (countCycle s).alert = s.alert := by
  unfold countCycle; try dsimp only
  (repeat' split) <;> simp

@[simp] theorem tickTimer_pending : (tickTimer s).pending = s.pending := by
  unfold tickTimer; try dsimp only
  (repeat' split) <;> simp
@[simp] theorem tickTimer_state : (tickTimer s).state = s.state := by
  unfold tickTimer; try dsimp only
  (repeat' split) <;> simp
@[simp] theorem tickTimer_inReset : (tickTimer s).inReset = s.inReset := by
  unfold tickTimer; try dsimp only
  (repeat' split) <;> simp
@[simp] theorem tickTimer_setup : (tickTimer s).setup = s.setup := by
  unfold tickTimer; try dsimp only
  (repeat' split) <;> simp
@[simp] theorem tickTimer_straps : (tickTimer s).straps = s.straps := by
  unfold tickTimer; try dsimp only
  (repeat' split) <;> simp
@[simp] theorem tickTimer_lines : (tickTimer s).lines = s.lines := by
  unfold tickTimer; try dsimp only
  (repeat' split) <;> simp
@[simp] theorem tickTimer_port : (tickTimer s).port = s.port := by
  unfold tickTimer; try dsimp only
  (repeat' split) <;> simp
@[simp] theorem tickTimer_cue : (tickTimer s).cue = s.cue := by
  unfold tickTimer; try dsimp only
  (repeat' split) <;> simp
@[simp] theorem tickTimer_pll : (tickTimer s).pll = s.pll := by
  unfold tickTimer; try dsimp only
  (repeat' split) <;> simp
@[simp] theorem tickTimer_peer : (tickTimer s).peer = s.peer := by
  unfold tickTimer; try dsimp only
  (repeat' split) <;> simp
@[simp] theorem tickTimer_fault : (tickTimer s).fault = s.fault := by
  unfold tickTimer; try dsimp only
  (repeat' split) <;> simp
@[simp] theorem tickTimer_synth : (tickTimer s).synth = s.synth := by
  unfold tickTimer; try dsimp only
  (repeat' split) <;> simp
@[simp] theorem tickTimer_sw : (tickTimer s).sw = s.sw := by
  unfold tickTimer; try dsimp only
  (repeat' split) <;> simp
@[simp] theorem tickTimer_meas : (tickTimer s).meas = s.meas := by
  unfold tickTimer; try dsimp only
  (repeat' split) <;> simp
@[simp] theorem tickTimer_report : (tickTimer s).report = s.report := by
  unfold tickTimer; try dsimp only
  (repeat' split) <;> simp
@[simp] theorem tickTimer_alert : (tickTimer s).alert = s.alert := by
  unfold tickTimer; try dsimp only
  (repeat' split) <;> simp

@[simp] theorem countEpoch_pending : (countEpoch s).pending = s.pending := by
  unfold countEpoch; try dsimp only
  (repeat' split) <;> simp
@[simp] theorem countEpoch_state : (countEpoch s).state = s.state := by
  unfold countEpoch; try dsimp only
  (repeat' split) <;> simp
@[simp] theorem countEpoch_inReset : (countEpoch s).inReset = s.inReset := by
  unfold countEpoch; try dsimp only
  (repeat' split) <;> simp
@[simp] theorem countEpoch_setup : (countEpoch s).setup = s.setup := by
  unfold countEpoch; try dsimp only
  (repeat' split) <;> simp
@[simp] theorem countEpoch_straps : (countEpoch s).straps = s.straps := by
  unfold countEpoch; try dsimp only
  (repeat' split) <;> simp
@[simp] theorem countEpoch_lines : (countEpoch s).lines = s.lines := by
  unfold countEpoch; try dsimp only
  (repeat' split) <;> simp
@[simp] theorem countEpoch_port : (countEpoch s).port = s.port := by
  unfold countEpoch; try dsimp only
  (repeat' split) <;> simp
@[simp] theorem countEpoch_cue : (countEpoch s).cue = s.cue := by
  unfold countEpoch; try dsimp only
  (repeat' split) <;> simp
@[simp] theorem countEpoch_group : (countEpoch s).group = s.group := by
  unfold countEpoch; try dsimp only
  (repeat' split) <;> simp
@[simp] theorem countEpoch_pll : (countEpoch s).pll = s.pll := by
  unfold countEpoch; try dsimp only
  (repeat' split) <;> simp
@[simp] theorem countEpoch_peer : (countEpoch s).peer = s.peer := by
  unfold countEpoch; try dsimp only
  (repeat' split) <;> simp
@[simp] theorem countEpoch_synth : (countEpoch s).synth = s.synth := by
  unfold countEpoch; try dsimp only
  (repeat' split) <;> simp
@[simp] theorem countEpoch_sw : (countEpoch s).sw = s.sw := by
  unfold countEpoch; try dsimp only
  (repeat' split) <;> simp
@[simp] theorem countEpoch_meas : (countEpoch s).meas = s.meas := by
  unfold countEpoch; try dsimp only
  (repeat' split) <;> simp
@[simp] theorem countEpoch_report : (countEpoch s).report = s.report := by
  unfold countEpoch; try dsimp only
  (repeat' split) <;> simp
@[simp] theorem countEpoch_alert : (countEpoch s).alert = s.alert := by
  unfold countEpoch; try dsimp only
  (repeat' split) <;> simp

@[simp] theorem cutCommand_pending : (cutCommand s).pending = s.pending := by
  unfold cutCommand; try dsimp only
  (repeat' split) <;> simp
@[simp] theorem cutCommand_state : (cutCommand s).state = s.state := by
  unfold cutCommand; try dsimp only
  (repeat' split) <;> simp
@[simp] theorem cutCommand_inReset : (cutCommand s).inReset = s.inReset := by
  unfold cutCommand; try dsimp only
  (repeat' split) <;> simp
@[simp] theorem cutCommand_setup : (cutCommand s).setup = s.setup := by
  unfold cutCommand; try dsimp only
  (repeat' split) <;> simp
@[simp] theorem cutCommand_straps : (cutCommand s).straps = s.straps := by
  unfold cutCommand; try dsimp only
  (repeat' split) <;> simp
@[simp] theorem cutCommand_lines : (cutCommand s).lines = s.lines := by
  unfold cutCommand; try dsimp only
  (repeat' split) <;> simp
@[simp] theorem cutCommand_cue : (cutCommand s).cue = s.cue := by
  unfold cutCommand; try dsimp only
  (repeat' split) <;> simp
@[simp] theorem cutCommand_group : (cutCommand s).group = s.group := by
  unfold cutCommand; try dsimp only
  (repeat' split) <;> simp
@[simp] theorem cutCommand_pll : (cutCommand s).pll = s.pll := by
  unfold cutCommand; try dsimp only
  (repeat' split) <;> simp
@[simp] theorem cutCommand_peer : (cutCommand s).peer = s.peer := by
  unfold cutCommand; try dsimp only
  (repeat' split) <;> simp
@[simp] theorem cutCommand_fault : (cutCommand s).fault = s.fault := by
  unfold cutCommand; try dsimp only
  (repeat' split) <;> simp
@[simp] theorem cutCommand_synth : (cutCommand s).synth = s.synth := by
  unfold cutCommand; try dsimp only
  (repeat' split) <;> simp
@[simp] theorem cutCommand_sw : (cutCommand s).sw = s.sw := by
  unfold cutCommand; try dsimp only
  (repeat' split) <;> simp
@[simp] theorem cutCommand_meas : (cutCommand s).meas = s.meas := by
  unfold cutCommand; try dsimp only
  (repeat' split) <;> simp
@[simp] theorem cutCommand_report : (cutCommand s).report = s.report := by
  unfold cutCommand; try dsimp only
  (repeat' split) <;> simp

@[simp] theorem closeSpanOfCsn_pending : (closeSpanOfCsn s).pending = s.pending := by
  unfold closeSpanOfCsn; try dsimp only
  (repeat' split) <;> simp
@[simp] theorem closeSpanOfCsn_state : (closeSpanOfCsn s).state = s.state := by
  unfold closeSpanOfCsn; try dsimp only
  (repeat' split) <;> simp
@[simp] theorem closeSpanOfCsn_inReset : (closeSpanOfCsn s).inReset = s.inReset := by
  unfold closeSpanOfCsn; try dsimp only
  (repeat' split) <;> simp
@[simp] theorem closeSpanOfCsn_setup : (closeSpanOfCsn s).setup = s.setup := by
  unfold closeSpanOfCsn; try dsimp only
  (repeat' split) <;> simp
@[simp] theorem closeSpanOfCsn_straps : (closeSpanOfCsn s).straps = s.straps := by
  unfold closeSpanOfCsn; try dsimp only
  (repeat' split) <;> simp
@[simp] theorem closeSpanOfCsn_lines : (closeSpanOfCsn s).lines = s.lines := by
  unfold closeSpanOfCsn; try dsimp only
  (repeat' split) <;> simp
@[simp] theorem closeSpanOfCsn_cue : (closeSpanOfCsn s).cue = s.cue := by
  unfold closeSpanOfCsn; try dsimp only
  (repeat' split) <;> simp
@[simp] theorem closeSpanOfCsn_group : (closeSpanOfCsn s).group = s.group := by
  unfold closeSpanOfCsn; try dsimp only
  (repeat' split) <;> simp
@[simp] theorem closeSpanOfCsn_pll : (closeSpanOfCsn s).pll = s.pll := by
  unfold closeSpanOfCsn; try dsimp only
  (repeat' split) <;> simp
@[simp] theorem closeSpanOfCsn_peer : (closeSpanOfCsn s).peer = s.peer := by
  unfold closeSpanOfCsn; try dsimp only
  (repeat' split) <;> simp
@[simp] theorem closeSpanOfCsn_fault : (closeSpanOfCsn s).fault = s.fault := by
  unfold closeSpanOfCsn; try dsimp only
  (repeat' split) <;> simp
@[simp] theorem closeSpanOfCsn_synth : (closeSpanOfCsn s).synth = s.synth := by
  unfold closeSpanOfCsn; try dsimp only
  (repeat' split) <;> simp
@[simp] theorem closeSpanOfCsn_sw : (closeSpanOfCsn s).sw = s.sw := by
  unfold closeSpanOfCsn; try dsimp only
  (repeat' split) <;> simp
@[simp] theorem closeSpanOfCsn_meas : (closeSpanOfCsn s).meas = s.meas := by
  unfold closeSpanOfCsn; try dsimp only
  (repeat' split) <;> simp
@[simp] theorem closeSpanOfCsn_report : (closeSpanOfCsn s).report = s.report := by
  unfold closeSpanOfCsn; try dsimp only
  (repeat' split) <;> simp

@[simp] theorem seeCsnHigh_pending : (seeCsnHigh s).pending = s.pending := by
  unfold seeCsnHigh; try dsimp only
  (repeat' split) <;> simp
@[simp] theorem seeCsnHigh_state : (seeCsnHigh s).state = s.state := by
  unfold seeCsnHigh; try dsimp only
  (repeat' split) <;> simp
@[simp] theorem seeCsnHigh_inReset : (seeCsnHigh s).inReset = s.inReset := by
  unfold seeCsnHigh; try dsimp only
  (repeat' split) <;> simp
@[simp] theorem seeCsnHigh_setup : (seeCsnHigh s).setup = s.setup := by
  unfold seeCsnHigh; try dsimp only
  (repeat' split) <;> simp
@[simp] theorem seeCsnHigh_straps : (seeCsnHigh s).straps = s.straps := by
  unfold seeCsnHigh; try dsimp only
  (repeat' split) <;> simp
@[simp] theorem seeCsnHigh_lines : (seeCsnHigh s).lines = s.lines := by
  unfold seeCsnHigh; try dsimp only
  (repeat' split) <;> simp
@[simp] theorem seeCsnHigh_cue : (seeCsnHigh s).cue = s.cue := by
  unfold seeCsnHigh; try dsimp only
  (repeat' split) <;> simp
@[simp] theorem seeCsnHigh_group : (seeCsnHigh s).group = s.group := by
  unfold seeCsnHigh; try dsimp only
  (repeat' split) <;> simp
@[simp] theorem seeCsnHigh_pll : (seeCsnHigh s).pll = s.pll := by
  unfold seeCsnHigh; try dsimp only
  (repeat' split) <;> simp
@[simp] theorem seeCsnHigh_peer : (seeCsnHigh s).peer = s.peer := by
  unfold seeCsnHigh; try dsimp only
  (repeat' split) <;> simp
@[simp] theorem seeCsnHigh_fault : (seeCsnHigh s).fault = s.fault := by
  unfold seeCsnHigh; try dsimp only
  (repeat' split) <;> simp
@[simp] theorem seeCsnHigh_synth : (seeCsnHigh s).synth = s.synth := by
  unfold seeCsnHigh; try dsimp only
  (repeat' split) <;> simp
@[simp] theorem seeCsnHigh_sw : (seeCsnHigh s).sw = s.sw := by
  unfold seeCsnHigh; try dsimp only
  (repeat' split) <;> simp
@[simp] theorem seeCsnHigh_meas : (seeCsnHigh s).meas = s.meas := by
  unfold seeCsnHigh; try dsimp only
  (repeat' split) <;> simp
@[simp] theorem seeCsnHigh_report : (seeCsnHigh s).report = s.report := by
  unfold seeCsnHigh; try dsimp only
  (repeat' split) <;> simp

@[simp] theorem watchCsn_pending : (watchCsn s).pending = s.pending := by
  unfold watchCsn; try dsimp only
  (repeat' split) <;> simp
@[simp] theorem watchCsn_state : (watchCsn s).state = s.state := by
  unfold watchCsn; try dsimp only
  (repeat' split) <;> simp
@[simp] theorem watchCsn_inReset : (watchCsn s).inReset = s.inReset := by
  unfold watchCsn; try dsimp only
  (repeat' split) <;> simp
@[simp] theorem watchCsn_setup : (watchCsn s).setup = s.setup := by
  unfold watchCsn; try dsimp only
  (repeat' split) <;> simp
@[simp] theorem watchCsn_straps : (watchCsn s).straps = s.straps := by
  unfold watchCsn; try dsimp only
  (repeat' split) <;> simp
@[simp] theorem watchCsn_lines : (watchCsn s).lines = s.lines := by
  unfold watchCsn; try dsimp only
  (repeat' split) <;> simp
@[simp] theorem watchCsn_cue : (watchCsn s).cue = s.cue := by
  unfold watchCsn; try dsimp only
  (repeat' split) <;> simp
@[simp] theorem watchCsn_group : (watchCsn s).group = s.group := by
  unfold watchCsn; try dsimp only
  (repeat' split) <;> simp
@[simp] theorem watchCsn_pll : (watchCsn s).pll = s.pll := by
  unfold watchCsn; try dsimp only
  (repeat' split) <;> simp
@[simp] theorem watchCsn_peer : (watchCsn s).peer = s.peer := by
  unfold watchCsn; try dsimp only
  (repeat' split) <;> simp
@[simp] theorem watchCsn_fault : (watchCsn s).fault = s.fault := by
  unfold watchCsn; try dsimp only
  (repeat' split) <;> simp
@[simp] theorem watchCsn_synth : (watchCsn s).synth = s.synth := by
  unfold watchCsn; try dsimp only
  (repeat' split) <;> simp
@[simp] theorem watchCsn_sw : (watchCsn s).sw = s.sw := by
  unfold watchCsn; try dsimp only
  (repeat' split) <;> simp
@[simp] theorem watchCsn_meas : (watchCsn s).meas = s.meas := by
  unfold watchCsn; try dsimp only
  (repeat' split) <;> simp
@[simp] theorem watchCsn_report : (watchCsn s).report = s.report := by
  unfold watchCsn; try dsimp only
  (repeat' split) <;> simp

@[simp] theorem storeLoss_pending : (storeLoss s).pending = s.pending := by
  unfold storeLoss; try dsimp only
  simp
@[simp] theorem storeLoss_state : (storeLoss s).state = s.state := by
  unfold storeLoss; try dsimp only
  simp
@[simp] theorem storeLoss_inReset : (storeLoss s).inReset = s.inReset := by
  unfold storeLoss; try dsimp only
  simp
@[simp] theorem storeLoss_setup : (storeLoss s).setup = s.setup := by
  unfold storeLoss; try dsimp only
  simp
@[simp] theorem storeLoss_straps : (storeLoss s).straps = s.straps := by
  unfold storeLoss; try dsimp only
  simp
@[simp] theorem storeLoss_lines : (storeLoss s).lines = s.lines := by
  unfold storeLoss; try dsimp only
  simp
@[simp] theorem storeLoss_port : (storeLoss s).port = s.port := by
  unfold storeLoss; try dsimp only
  simp
@[simp] theorem storeLoss_cue : (storeLoss s).cue = s.cue := by
  unfold storeLoss; try dsimp only
  simp
@[simp] theorem storeLoss_group : (storeLoss s).group = s.group := by
  unfold storeLoss; try dsimp only
  simp
@[simp] theorem storeLoss_pll : (storeLoss s).pll = s.pll := by
  unfold storeLoss; try dsimp only
  simp
@[simp] theorem storeLoss_peer : (storeLoss s).peer = s.peer := by
  unfold storeLoss; try dsimp only
  simp
@[simp] theorem storeLoss_fault : (storeLoss s).fault = s.fault := by
  unfold storeLoss; try dsimp only
  simp
@[simp] theorem storeLoss_synth : (storeLoss s).synth = s.synth := by
  unfold storeLoss; try dsimp only
  simp
@[simp] theorem storeLoss_sw : (storeLoss s).sw = s.sw := by
  unfold storeLoss; try dsimp only
  simp
@[simp] theorem storeLoss_meas : (storeLoss s).meas = s.meas := by
  unfold storeLoss; try dsimp only
  simp

/-! ### The row of a sample, and an activation with it -/

@[simp] theorem noteCompletion_pending : (noteCompletion s).pending = s.pending := by
  unfold noteCompletion; try dsimp only
  (repeat' split) <;> simp
@[simp] theorem noteCompletion_state : (noteCompletion s).state = s.state := by
  unfold noteCompletion; try dsimp only
  (repeat' split) <;> simp
@[simp] theorem noteCompletion_inReset : (noteCompletion s).inReset = s.inReset := by
  unfold noteCompletion; try dsimp only
  (repeat' split) <;> simp
@[simp] theorem noteCompletion_setup : (noteCompletion s).setup = s.setup := by
  unfold noteCompletion; try dsimp only
  (repeat' split) <;> simp
@[simp] theorem noteCompletion_straps : (noteCompletion s).straps = s.straps := by
  unfold noteCompletion; try dsimp only
  (repeat' split) <;> simp
@[simp] theorem noteCompletion_lines : (noteCompletion s).lines = s.lines := by
  unfold noteCompletion; try dsimp only
  (repeat' split) <;> simp
@[simp] theorem noteCompletion_port : (noteCompletion s).port = s.port := by
  unfold noteCompletion; try dsimp only
  (repeat' split) <;> simp
@[simp] theorem noteCompletion_group : (noteCompletion s).group = s.group := by
  unfold noteCompletion; try dsimp only
  (repeat' split) <;> simp
@[simp] theorem noteCompletion_pll : (noteCompletion s).pll = s.pll := by
  unfold noteCompletion; try dsimp only
  (repeat' split) <;> simp
@[simp] theorem noteCompletion_peer : (noteCompletion s).peer = s.peer := by
  unfold noteCompletion; try dsimp only
  (repeat' split) <;> simp
@[simp] theorem noteCompletion_fault : (noteCompletion s).fault = s.fault := by
  unfold noteCompletion; try dsimp only
  (repeat' split) <;> simp
@[simp] theorem noteCompletion_synth : (noteCompletion s).synth = s.synth := by
  unfold noteCompletion; try dsimp only
  (repeat' split) <;> simp
@[simp] theorem noteCompletion_sw : (noteCompletion s).sw = s.sw := by
  unfold noteCompletion; try dsimp only
  (repeat' split) <;> simp
@[simp] theorem noteCompletion_meas : (noteCompletion s).meas = s.meas := by
  unfold noteCompletion; try dsimp only
  (repeat' split) <;> simp
@[simp] theorem noteCompletion_report : (noteCompletion s).report = s.report := by
  unfold noteCompletion; try dsimp only
  (repeat' split) <;> simp
@[simp] theorem noteCompletion_alert : (noteCompletion s).alert = s.alert := by
  unfold noteCompletion; try dsimp only
  (repeat' split) <;> simp

@[simp] theorem closeEmpties_pending (n : Nat) (s : State) : (closeEmpties n s).pending = s.pending := by
  induction n generalizing s with
  | zero => rfl
  | succ n ih => simp [closeEmpties, ih]
@[simp] theorem closeEmpties_state (n : Nat) (s : State) : (closeEmpties n s).state = s.state := by
  induction n generalizing s with
  | zero => rfl
  | succ n ih => simp [closeEmpties, ih]
@[simp] theorem closeEmpties_inReset (n : Nat) (s : State) : (closeEmpties n s).inReset = s.inReset := by
  induction n generalizing s with
  | zero => rfl
  | succ n ih => simp [closeEmpties, ih]
@[simp] theorem closeEmpties_setup (n : Nat) (s : State) : (closeEmpties n s).setup = s.setup := by
  induction n generalizing s with
  | zero => rfl
  | succ n ih => simp [closeEmpties, ih]
@[simp] theorem closeEmpties_straps (n : Nat) (s : State) : (closeEmpties n s).straps = s.straps := by
  induction n generalizing s with
  | zero => rfl
  | succ n ih => simp [closeEmpties, ih]
@[simp] theorem closeEmpties_lines (n : Nat) (s : State) : (closeEmpties n s).lines = s.lines := by
  induction n generalizing s with
  | zero => rfl
  | succ n ih => simp [closeEmpties, ih]
@[simp] theorem closeEmpties_port (n : Nat) (s : State) : (closeEmpties n s).port = s.port := by
  induction n generalizing s with
  | zero => rfl
  | succ n ih => simp [closeEmpties, ih]
@[simp] theorem closeEmpties_cue (n : Nat) (s : State) : (closeEmpties n s).cue = s.cue := by
  induction n generalizing s with
  | zero => rfl
  | succ n ih => simp [closeEmpties, ih]
@[simp] theorem closeEmpties_group (n : Nat) (s : State) : (closeEmpties n s).group = s.group := by
  induction n generalizing s with
  | zero => rfl
  | succ n ih => simp [closeEmpties, ih]
@[simp] theorem closeEmpties_pll (n : Nat) (s : State) : (closeEmpties n s).pll = s.pll := by
  induction n generalizing s with
  | zero => rfl
  | succ n ih => simp [closeEmpties, ih]
@[simp] theorem closeEmpties_peer (n : Nat) (s : State) : (closeEmpties n s).peer = s.peer := by
  induction n generalizing s with
  | zero => rfl
  | succ n ih => simp [closeEmpties, ih]
@[simp] theorem closeEmpties_fault (n : Nat) (s : State) : (closeEmpties n s).fault = s.fault := by
  induction n generalizing s with
  | zero => rfl
  | succ n ih => simp [closeEmpties, ih]
@[simp] theorem closeEmpties_synth (n : Nat) (s : State) : (closeEmpties n s).synth = s.synth := by
  induction n generalizing s with
  | zero => rfl
  | succ n ih => simp [closeEmpties, ih]
@[simp] theorem closeEmpties_sw (n : Nat) (s : State) : (closeEmpties n s).sw = s.sw := by
  induction n generalizing s with
  | zero => rfl
  | succ n ih => simp [closeEmpties, ih]
@[simp] theorem closeEmpties_report (n : Nat) (s : State) : (closeEmpties n s).report = s.report := by
  induction n generalizing s with
  | zero => rfl
  | succ n ih => simp [closeEmpties, ih]

@[simp] theorem closeHalves_pending (n : Nat) : (closeHalves n s).pending = s.pending := by
  cases n <;> simp [closeHalves]
@[simp] theorem closeHalves_state (n : Nat) : (closeHalves n s).state = s.state := by
  cases n <;> simp [closeHalves]
@[simp] theorem closeHalves_inReset (n : Nat) : (closeHalves n s).inReset = s.inReset := by
  cases n <;> simp [closeHalves]
@[simp] theorem closeHalves_setup (n : Nat) : (closeHalves n s).setup = s.setup := by
  cases n <;> simp [closeHalves]
@[simp] theorem closeHalves_straps (n : Nat) : (closeHalves n s).straps = s.straps := by
  cases n <;> simp [closeHalves]
@[simp] theorem closeHalves_lines (n : Nat) : (closeHalves n s).lines = s.lines := by
  cases n <;> simp [closeHalves]
@[simp] theorem closeHalves_port (n : Nat) : (closeHalves n s).port = s.port := by
  cases n <;> simp [closeHalves]
@[simp] theorem closeHalves_cue (n : Nat) : (closeHalves n s).cue = s.cue := by
  cases n <;> simp [closeHalves]
@[simp] theorem closeHalves_group (n : Nat) : (closeHalves n s).group = s.group := by
  cases n <;> simp [closeHalves]
@[simp] theorem closeHalves_pll (n : Nat) : (closeHalves n s).pll = s.pll := by
  cases n <;> simp [closeHalves]
@[simp] theorem closeHalves_peer (n : Nat) : (closeHalves n s).peer = s.peer := by
  cases n <;> simp [closeHalves]
@[simp] theorem closeHalves_fault (n : Nat) : (closeHalves n s).fault = s.fault := by
  cases n <;> simp [closeHalves]
@[simp] theorem closeHalves_synth (n : Nat) : (closeHalves n s).synth = s.synth := by
  cases n <;> simp [closeHalves]
@[simp] theorem closeHalves_sw (n : Nat) : (closeHalves n s).sw = s.sw := by
  cases n <;> simp [closeHalves]
@[simp] theorem closeHalves_report (n : Nat) : (closeHalves n s).report = s.report := by
  cases n <;> simp [closeHalves]

@[simp] theorem startChain_pending (n : Nat) (s : State) : (startChain n s).pending = s.pending := by
  induction n generalizing s with
  | zero => rfl
  | succ n ih => unfold startChain; split <;> simp [ih]
@[simp] theorem startChain_state (n : Nat) (s : State) : (startChain n s).state = s.state := by
  induction n generalizing s with
  | zero => rfl
  | succ n ih => unfold startChain; split <;> simp [ih]
@[simp] theorem startChain_inReset (n : Nat) (s : State) : (startChain n s).inReset = s.inReset := by
  induction n generalizing s with
  | zero => rfl
  | succ n ih => unfold startChain; split <;> simp [ih]
@[simp] theorem startChain_setup (n : Nat) (s : State) : (startChain n s).setup = s.setup := by
  induction n generalizing s with
  | zero => rfl
  | succ n ih => unfold startChain; split <;> simp [ih]
@[simp] theorem startChain_straps (n : Nat) (s : State) : (startChain n s).straps = s.straps := by
  induction n generalizing s with
  | zero => rfl
  | succ n ih => unfold startChain; split <;> simp [ih]
@[simp] theorem startChain_lines (n : Nat) (s : State) : (startChain n s).lines = s.lines := by
  induction n generalizing s with
  | zero => rfl
  | succ n ih => unfold startChain; split <;> simp [ih]
@[simp] theorem startChain_port (n : Nat) (s : State) : (startChain n s).port = s.port := by
  induction n generalizing s with
  | zero => rfl
  | succ n ih => unfold startChain; split <;> simp [ih]
@[simp] theorem startChain_peer (n : Nat) (s : State) : (startChain n s).peer = s.peer := by
  induction n generalizing s with
  | zero => rfl
  | succ n ih => unfold startChain; split <;> simp [ih]
@[simp] theorem startChain_fault (n : Nat) (s : State) : (startChain n s).fault = s.fault := by
  induction n generalizing s with
  | zero => rfl
  | succ n ih => unfold startChain; split <;> simp [ih]

@[simp] theorem completeStop_pending : (completeStop s).pending = s.pending := by
  unfold completeStop; try dsimp only
  (repeat' split) <;> simp
@[simp] theorem completeStop_inReset : (completeStop s).inReset = s.inReset := by
  unfold completeStop; try dsimp only
  (repeat' split) <;> simp
@[simp] theorem completeStop_setup : (completeStop s).setup = s.setup := by
  unfold completeStop; try dsimp only
  (repeat' split) <;> simp
@[simp] theorem completeStop_straps : (completeStop s).straps = s.straps := by
  unfold completeStop; try dsimp only
  (repeat' split) <;> simp
@[simp] theorem completeStop_lines : (completeStop s).lines = s.lines := by
  unfold completeStop; try dsimp only
  (repeat' split) <;> simp
@[simp] theorem completeStop_port : (completeStop s).port = s.port := by
  unfold completeStop; try dsimp only
  (repeat' split) <;> simp

@[simp] theorem settleSample_pending : (settleSample s).pending = s.pending := by
  unfold settleSample; try dsimp only
  (repeat' split) <;> simp
@[simp] theorem settleSample_inReset : (settleSample s).inReset = s.inReset := by
  unfold settleSample; try dsimp only
  (repeat' split) <;> simp
@[simp] theorem settleSample_setup : (settleSample s).setup = s.setup := by
  unfold settleSample; try dsimp only
  (repeat' split) <;> simp
@[simp] theorem settleSample_straps : (settleSample s).straps = s.straps := by
  unfold settleSample; try dsimp only
  (repeat' split) <;> simp
@[simp] theorem settleSample_lines : (settleSample s).lines = s.lines := by
  unfold settleSample; try dsimp only
  (repeat' split) <;> simp
@[simp] theorem settleSample_port : (settleSample s).port = s.port := by
  unfold settleSample; try dsimp only
  (repeat' split) <;> simp

@[simp] theorem countComing_pending : (countComing s).pending = s.pending := by
  unfold countComing; try dsimp only
  (repeat' split) <;> simp
@[simp] theorem countComing_state : (countComing s).state = s.state := by
  unfold countComing; try dsimp only
  (repeat' split) <;> simp
@[simp] theorem countComing_inReset : (countComing s).inReset = s.inReset := by
  unfold countComing; try dsimp only
  (repeat' split) <;> simp
@[simp] theorem countComing_setup : (countComing s).setup = s.setup := by
  unfold countComing; try dsimp only
  (repeat' split) <;> simp
@[simp] theorem countComing_straps : (countComing s).straps = s.straps := by
  unfold countComing; try dsimp only
  (repeat' split) <;> simp
@[simp] theorem countComing_lines : (countComing s).lines = s.lines := by
  unfold countComing; try dsimp only
  (repeat' split) <;> simp
@[simp] theorem countComing_port : (countComing s).port = s.port := by
  unfold countComing; try dsimp only
  (repeat' split) <;> simp
@[simp] theorem countComing_cue : (countComing s).cue = s.cue := by
  unfold countComing; try dsimp only
  (repeat' split) <;> simp
@[simp] theorem countComing_pll : (countComing s).pll = s.pll := by
  unfold countComing; try dsimp only
  (repeat' split) <;> simp
@[simp] theorem countComing_peer : (countComing s).peer = s.peer := by
  unfold countComing; try dsimp only
  (repeat' split) <;> simp
@[simp] theorem countComing_synth : (countComing s).synth = s.synth := by
  unfold countComing; try dsimp only
  (repeat' split) <;> simp
@[simp] theorem countComing_sw : (countComing s).sw = s.sw := by
  unfold countComing; try dsimp only
  (repeat' split) <;> simp
@[simp] theorem countComing_meas : (countComing s).meas = s.meas := by
  unfold countComing; try dsimp only
  (repeat' split) <;> simp
@[simp] theorem countComing_report : (countComing s).report = s.report := by
  unfold countComing; try dsimp only
  (repeat' split) <;> simp
@[simp] theorem countComing_alert : (countComing s).alert = s.alert := by
  unfold countComing; try dsimp only
  (repeat' split) <;> simp

@[simp] theorem closeAt_pending (hold : Bool) (n : Nat) : (closeAt hold n s).pending = s.pending := by
  unfold closeAt; try dsimp only
  (repeat' split) <;> simp
@[simp] theorem closeAt_inReset (hold : Bool) (n : Nat) : (closeAt hold n s).inReset = s.inReset := by
  unfold closeAt; try dsimp only
  (repeat' split) <;> simp
@[simp] theorem closeAt_setup (hold : Bool) (n : Nat) : (closeAt hold n s).setup = s.setup := by
  unfold closeAt; try dsimp only
  (repeat' split) <;> simp
@[simp] theorem closeAt_straps (hold : Bool) (n : Nat) : (closeAt hold n s).straps = s.straps := by
  unfold closeAt; try dsimp only
  (repeat' split) <;> simp
@[simp] theorem closeAt_lines (hold : Bool) (n : Nat) : (closeAt hold n s).lines = s.lines := by
  unfold closeAt; try dsimp only
  (repeat' split) <;> simp
@[simp] theorem closeAt_port (hold : Bool) (n : Nat) : (closeAt hold n s).port = s.port := by
  unfold closeAt; try dsimp only
  (repeat' split) <;> simp

@[simp] theorem arriveAt_pending (hold : Bool) (steps : Option Nat) (p : PhaseLock) :
    (arriveAt hold steps p s).pending = s.pending := by
  simp [arriveAt]
@[simp] theorem arriveAt_inReset (hold : Bool) (steps : Option Nat) (p : PhaseLock) :
    (arriveAt hold steps p s).inReset = s.inReset := by
  simp [arriveAt]
@[simp] theorem arriveAt_setup (hold : Bool) (steps : Option Nat) (p : PhaseLock) :
    (arriveAt hold steps p s).setup = s.setup := by
  simp [arriveAt]
@[simp] theorem arriveAt_straps (hold : Bool) (steps : Option Nat) (p : PhaseLock) :
    (arriveAt hold steps p s).straps = s.straps := by
  simp [arriveAt]
@[simp] theorem arriveAt_lines (hold : Bool) (steps : Option Nat) (p : PhaseLock) :
    (arriveAt hold steps p s).lines = s.lines := by
  simp [arriveAt]
@[simp] theorem arriveAt_port (hold : Bool) (steps : Option Nat) (p : PhaseLock) :
    (arriveAt hold steps p s).port = s.port := by
  simp [arriveAt]

@[simp] theorem activateWithSample_pending : (activateWithSample s).pending = s.pending := by
  unfold activateWithSample; try dsimp only
  (repeat' split) <;> simp
@[simp] theorem activateWithSample_inReset : (activateWithSample s).inReset = s.inReset := by
  unfold activateWithSample; try dsimp only
  (repeat' split) <;> simp
@[simp] theorem activateWithSample_setup : (activateWithSample s).setup = s.setup := by
  unfold activateWithSample; try dsimp only
  (repeat' split) <;> simp
@[simp] theorem activateWithSample_straps : (activateWithSample s).straps = s.straps := by
  unfold activateWithSample; try dsimp only
  (repeat' split) <;> simp
@[simp] theorem activateWithSample_lines : (activateWithSample s).lines = s.lines := by
  unfold activateWithSample; try dsimp only
  (repeat' split) <;> simp
@[simp] theorem activateWithSample_port : (activateWithSample s).port = s.port := by
  unfold activateWithSample; try dsimp only
  (repeat' split) <;> simp

@[simp] theorem requestActivation_pending : (requestActivation s).pending = s.pending := by
  unfold requestActivation; try dsimp only
  (repeat' split) <;> simp
@[simp] theorem requestActivation_inReset : (requestActivation s).inReset = s.inReset := by
  unfold requestActivation; try dsimp only
  (repeat' split) <;> simp
@[simp] theorem requestActivation_setup : (requestActivation s).setup = s.setup := by
  unfold requestActivation; try dsimp only
  (repeat' split) <;> simp
@[simp] theorem requestActivation_straps : (requestActivation s).straps = s.straps := by
  unfold requestActivation; try dsimp only
  (repeat' split) <;> simp
@[simp] theorem requestActivation_lines : (requestActivation s).lines = s.lines := by
  unfold requestActivation; try dsimp only
  (repeat' split) <;> simp
@[simp] theorem requestActivation_port : (requestActivation s).port = s.port := by
  unfold requestActivation; try dsimp only
  (repeat' split) <;> simp

@[simp] theorem afterAppend_pending (b : Bool) (c : Cue) : (afterAppend b c s).pending = s.pending := by
  unfold afterAppend; try dsimp only
  (repeat' split) <;> simp
@[simp] theorem afterAppend_inReset (b : Bool) (c : Cue) : (afterAppend b c s).inReset = s.inReset := by
  unfold afterAppend; try dsimp only
  (repeat' split) <;> simp
@[simp] theorem afterAppend_setup (b : Bool) (c : Cue) : (afterAppend b c s).setup = s.setup := by
  unfold afterAppend; try dsimp only
  (repeat' split) <;> simp
@[simp] theorem afterAppend_straps (b : Bool) (c : Cue) : (afterAppend b c s).straps = s.straps := by
  unfold afterAppend; try dsimp only
  (repeat' split) <;> simp
@[simp] theorem afterAppend_lines (b : Bool) (c : Cue) : (afterAppend b c s).lines = s.lines := by
  unfold afterAppend; try dsimp only
  (repeat' split) <;> simp
@[simp] theorem afterAppend_port (b : Bool) (c : Cue) : (afterAppend b c s).port = s.port := by
  unfold afterAppend; try dsimp only
  (repeat' split) <;> simp

end Sys2Proof.Laws
end

