-- ==== Sys2Proof/Laws/PerInstr.lean ====
section
/-! SUPPORT. The family HostFrame, instruction by instruction: the bytes that spell a command of the port are read
back as that command. -/

namespace Sys2Proof.Laws.HostFrame

open Sys2Proof Sys2Proof.Machine

/-- R176, R178: the bytes a controller shifts up to the command's end; none for an event. -/
def spelled : Instr → Option (List Byte)
  | .status p => some (commandFrame 0x01#8 p)
  | .setup p => some (commandFrame 0x02#8 p)
  | .hset p => some (commandFrame 0x03#8 p)
  | .cue p => some (commandFrame 0x10#8 p)
  | .flush p => some (commandFrame 0x11#8 p)
  | .join p => some (commandFrame 0x20#8 p)
  | .leave p => some (commandFrame 0x21#8 p)
  | .arm p => some (commandFrame 0x22#8 p)
  | .disarm p => some (commandFrame 0x23#8 p)
  | .abort p => some (commandFrame 0x24#8 p)
  | .clearFault p => some (commandFrame 0x25#8 p)
  | .take p => some (commandFrame 0x30#8 p)
  | .clearLoss p => some (commandFrame 0x31#8 p)
  | .peers p => some (commandFrame 0x32#8 p)
  | .alertSet p => some (commandFrame 0x40#8 p)
  | .alertNext p => some (commandFrame 0x41#8 p)
  | .alertDone p => some (commandFrame 0x42#8 p)
  | .reset p => some (commandFrame 0x7E#8 p)
  | .unknownCommand code p => some (commandFrame code p)
  | .badCheckFrame code p check => some (code :: BitVec.ofNat 8 p.length :: p ++ [check])
  | .lenAbove64 code len => some [code, len]
  | _ => none

/-- A well-formed command is read back from its bytes. -/
def Statement (i : Instr) : Prop := ∀ bytes, spelled i = some bytes → i.wellFormed = true → readCommand bytes = some i

theorem readCommand_frame (code : Byte) (p : List Byte) (h : p.length ≤ 64) :
    readCommand (commandFrame code p) = some ((commandOf code.toNat p).getD (.unknownCommand code p)) := by
  have e : (BitVec.ofNat 8 p.length).toNat = p.length := by simp; omega
  simp only [readCommand, commandFrame, List.cons_append, e]
  have h1 : ¬ 64 < p.length := by omega
  simp [h1]

theorem commandOf_unknown (code : Nat) (p : List Byte) (h : knownCodes.contains code = false) :
    commandOf code p = none := by
  unfold commandOf
  split <;> first | rfl | (exfalso; revert h; decide)

theorem status (payload : List Byte) : Statement (.status payload) := by
  intro bytes e h; cases e
  rw [readCommand_frame _ _ (of_decide_eq_true h)]; rfl

theorem setup (payload : List Byte) : Statement (.setup payload) := by
  intro bytes e h; cases e
  rw [readCommand_frame _ _ (of_decide_eq_true h)]; rfl

theorem hset (payload : List Byte) : Statement (.hset payload) := by
  intro bytes e h; cases e
  rw [readCommand_frame _ _ (of_decide_eq_true h)]; rfl

theorem cue (payload : List Byte) : Statement (.cue payload) := by
  intro bytes e h; cases e
  rw [readCommand_frame _ _ (of_decide_eq_true h)]; rfl

theorem flush (payload : List Byte) : Statement (.flush payload) := by
  intro bytes e h; cases e
  rw [readCommand_frame _ _ (of_decide_eq_true h)]; rfl

theorem join (payload : List Byte) : Statement (.join payload) := by
  intro bytes e h; cases e
  rw [readCommand_frame _ _ (of_decide_eq_true h)]; rfl

theorem leave (payload : List Byte) : Statement (.leave payload) := by
  intro bytes e h; cases e
  rw [readCommand_frame _ _ (of_decide_eq_true h)]; rfl

theorem arm (payload : List Byte) : Statement (.arm payload) := by
  intro bytes e h; cases e
  rw [readCommand_frame _ _ (of_decide_eq_true h)]; rfl

theorem disarm (payload : List Byte) : Statement (.disarm payload) := by
  intro bytes e h; cases e
  rw [readCommand_frame _ _ (of_decide_eq_true h)]; rfl

theorem abort (payload : List Byte) : Statement (.abort payload) := by
  intro bytes e h; cases e
  rw [readCommand_frame _ _ (of_decide_eq_true h)]; rfl

theorem clearFault (payload : List Byte) : Statement (.clearFault payload) := by
  intro bytes e h; cases e
  rw [readCommand_frame _ _ (of_decide_eq_true h)]; rfl

theorem take (payload : List Byte) : Statement (.take payload) := by
  intro bytes e h; cases e
  rw [readCommand_frame _ _ (of_decide_eq_true h)]; rfl

theorem clearLoss (payload : List Byte) : Statement (.clearLoss payload) := by
  intro bytes e h; cases e
  rw [readCommand_frame _ _ (of_decide_eq_true h)]; rfl

theorem peers (payload : List Byte) : Statement (.peers payload) := by
  intro bytes e h; cases e
  rw [readCommand_frame _ _ (of_decide_eq_true h)]; rfl

theorem alertSet (payload : List Byte) : Statement (.alertSet payload) := by
  intro bytes e h; cases e
  rw [readCommand_frame _ _ (of_decide_eq_true h)]; rfl

theorem alertNext (payload : List Byte) : Statement (.alertNext payload) := by
  intro bytes e h; cases e
  rw [readCommand_frame _ _ (of_decide_eq_true h)]; rfl

theorem alertDone (payload : List Byte) : Statement (.alertDone payload) := by
  intro bytes e h; cases e
  rw [readCommand_frame _ _ (of_decide_eq_true h)]; rfl

theorem reset (payload : List Byte) : Statement (.reset payload) := by
  intro bytes e h; cases e
  rw [readCommand_frame _ _ (of_decide_eq_true h)]; rfl

theorem unknownCommand (code : Byte) (payload : List Byte) : Statement (.unknownCommand code payload) := by
  intro bytes e h; cases e
  simp only [Instr.wellFormed, payloadFits, Bool.and_eq_true, decide_eq_true_eq, Bool.not_eq_true'] at h
  rw [readCommand_frame _ _ h.1, commandOf_unknown _ _ h.2]; rfl

theorem badCheckFrame (code : Byte) (payload : List Byte) (check : Byte) : Statement (.badCheckFrame code payload check) := by
  intro bytes e h; cases e
  simp only [Instr.wellFormed, payloadFits, Bool.and_eq_true, decide_eq_true_eq] at h
  have e : (BitVec.ofNat 8 payload.length).toNat = payload.length := by simp; omega
  have h1 : ¬ 64 < payload.length := by omega
  simp [readCommand, e, h1, h.2]

theorem lenAbove64 (code : Byte) (len : Byte) : Statement (.lenAbove64 code len) := by
  intro bytes e h; cases e
  have h1 : 64 < len.toNat := of_decide_eq_true h
  simp [readCommand, h1]

theorem commandCut (sckEdges : Nat) : Statement (.commandCut sckEdges) := by
  intro bytes e; cases e

theorem replyCut : Statement .replyCut := by
  intro bytes e; cases e

theorem replyComplete : Statement .replyComplete := by
  intro bytes e; cases e

theorem commandReset : Statement .commandReset := by
  intro bytes e; cases e

theorem pinReset : Statement .pinReset := by
  intro bytes e; cases e

theorem powerOnReset : Statement .powerOnReset := by
  intro bytes e; cases e

theorem resetEnd (id : Fin 8) (ph1 : Bool) (ph0 : Bool) (csnHigh : Bool) : Statement (.resetEnd id ph1 ph0 csnHigh) := by
  intro bytes e; cases e

theorem sample : Statement .sample := by
  intro bytes e; cases e

theorem peerFrameSent : Statement .peerFrameSent := by
  intro bytes e; cases e

theorem readbackMismatch : Statement .readbackMismatch := by
  intro bytes e; cases e

theorem peerFrameReceived (bytes : List Byte) : Statement (.peerFrameReceived bytes) := by
  intro bytes e; cases e

theorem epoch (line : SynLine) : Statement (.epoch line) := by
  intro bytes e; cases e

theorem lock : Statement .lock := by
  intro bytes e; cases e

theorem founder : Statement .founder := by
  intro bytes e; cases e

theorem peerAbsent (station : Fin 8) : Statement (.peerAbsent station) := by
  intro bytes e; cases e

theorem shareImbalance (station : Fin 8) : Statement (.shareImbalance station) := by
  intro bytes e; cases e

theorem syncPullEnd : Statement .syncPullEnd := by
  intro bytes e; cases e

theorem syncFallNoted (whole : Nat) (num : Nat) (den : Nat) : Statement (.syncFallNoted whole num den) := by
  intro bytes e; cases e

theorem gateTimeout : Statement .gateTimeout := by
  intro bytes e; cases e

theorem tagMismatch (station : Fin 8) : Statement (.tagMismatch station) := by
  intro bytes e; cases e

theorem tkGateChange (high : Bool) : Statement (.tkGateChange high) := by
  intro bytes e; cases e

theorem gateOpening : Statement .gateOpening := by
  intro bytes e; cases e

theorem gatePulseEnd : Statement .gatePulseEnd := by
  intro bytes e; cases e

theorem cueStart : Statement .cueStart := by
  intro bytes e; cases e

theorem cueCompletion : Statement .cueCompletion := by
  intro bytes e; cases e

theorem rampEnd : Statement .rampEnd := by
  intro bytes e; cases e

theorem flickerBoundary : Statement .flickerBoundary := by
  intro bytes e; cases e

theorem flickerChange : Statement .flickerChange := by
  intro bytes e; cases e

theorem stopCompletion : Statement .stopCompletion := by
  intro bytes e; cases e

theorem pendingTransitionClose : Statement .pendingTransitionClose := by
  intro bytes e; cases e

theorem decimatorResult (channel : Channel) (bits : List Bool) : Statement (.decimatorResult channel bits) := by
  intro bytes e; cases e

theorem clampEnd : Statement .clampEnd := by
  intro bytes e; cases e

theorem overload : Statement .overload := by
  intro bytes e; cases e

theorem outOfTolerance : Statement .outOfTolerance := by
  intro bytes e; cases e

theorem tkFltFall : Statement .tkFltFall := by
  intro bytes e; cases e

theorem tkFltRise : Statement .tkFltRise := by
  intro bytes e; cases e

theorem faultRecord : Statement .faultRecord := by
  intro bytes e; cases e

theorem receiverAbandonsFrame : Statement .receiverAbandonsFrame := by
  intro bytes e; cases e

theorem csnHighSeen : Statement .csnHighSeen := by
  intro bytes e; cases e

end Sys2Proof.Laws.HostFrame
end

