-- ==== Sys2Proof/Laws/Spec.lean ====
section
/-! SUPPORT. What each shared operation does, said once: the cases of offers, frames, activation, ends, causes, the
gate and the word, for proofs to cite in place of the definitions. -/

namespace Sys2Proof.Laws

open Sys2Proof Sys2Proof.Machine

variable (s : State)

/-! ### Alerts and offers -/

@[simp] theorem raise_alert (c : AlertCause) :
    (raise c s).alert = { s.alert with pending := s.alert.pending ||| BitVec.twoPow 14 c.num } := rfl

theorem raiseIf_alert (b : Bool) (c : AlertCause) :
    (raiseIf b c s).alert = { s.alert with pending := if b then s.alert.pending ||| BitVec.twoPow 14 c.num
                                                      else s.alert.pending } := by
  cases b <;> rfl

/-- R164: an offer to a queue that is LOST is counted. -/
theorem offer_lost (r : Record) (h : s.report.lost = true) :
    offer r s = { s with report := { s.report with lostCount := min 255 (s.report.lostCount + 1) } } := by
  simp [offer, h]

/-- R164: an offer to a full queue begins a loss. -/
theorem offer_full (r : Record) (h : s.report.lost = false) (hf : 24 ≤ s.report.records.length) :
    offer r s = raise .reportLoss { s with report := { s.report with lost := true, lostCount := 1 } } := by
  simp [offer, h, Config.reportCapacity, hf]

/-- R163: an offer to a queue with room is stored at its tail. -/
theorem offer_room (r : Record) (h : s.report.lost = false) (hf : s.report.records.length < 24) :
    offer r s = raiseIf s.report.records.isEmpty .reportReady
      { s with report := { s.report with records := s.report.records ++ [r] } } := by
  simp [offer, h, Config.reportCapacity, Nat.not_le.mpr hf]

/-- An offer changes pending flags of the Alert Unit alone. -/
theorem offer_alert_frame (r : Record) :
    (offer r s).alert = { s.alert with pending := (offer r s).alert.pending } := by
  unfold offer; (repeat' split) <;> simp [raiseIf_alert]

/-- R31: the end of the active cue. -/
theorem endCue_some (o : CueOutcome) (a : ActiveCue) (h : s.cue.active = some a) :
    endCue o s = raise .cueDone (offer (cueEndRecord s a o)
      (closeSpan { s with cue := { s.cue with active := none, ended := s.cue.ended + 1 } })) := by
  simp [endCue, h]

theorem endCue_none (o : CueOutcome) (h : s.cue.active = none) : endCue o s = s := by simp [endCue, h]

/-! ### Activation -/

theorem activate_nil (b : Bool) (h : s.cue.queue = []) : activate b s = s := by simp [activate, h]

theorem supersede_none (h : s.cue.active = none) : supersede s = s := by simp [supersede, h]

/-- R26: only a RUNNING cue of duration 0 is superseded. -/
theorem supersede_closed (a : ActiveCue) (h : s.cue.active = some a) (ho : a.open = false) : supersede s = s := by
  simp [supersede, h, ho]

/-- R20: an activation that no announcement puts at the coming sample is one between two samples. -/
theorem requestActivation_between (h : endAnnounced s = false) : requestActivation s = activate false s := by
  simp [requestActivation, h]

/-- R20, R26: one of the coming sample's instant takes that sample with it. -/
theorem requestActivation_withSample (h : endAnnounced s = true) : requestActivation s = activateWithSample s := by
  simp [requestActivation, h]

theorem endAnnounced_off (h : s.cue.handover ≠ .announced) : endAnnounced s = false := by simp [endAnnounced, h]

/-- R20: without a phase step the activation is made behind the events of the sample. -/
theorem activateWithSample_unstepped (h : comingSteps s = none) : activateWithSample s =
    finishWord (activate true (arriveAt true none (comingSample s.pll) (countComing s))) := by
  simp [activateWithSample, h]

/-- The coming sample is a SAMPLE's, or an EPOCH's at the wrap. -/
theorem comingSample_taken (p : PhaseLock) :
    (comingSample p).taken = if nextMultiple p < Config.cycle then .sample else .epoch := by
  unfold comingSample nextSample; split <;> simp_all

/-- R10: the active cue after an activation is the former head, fresh. -/
theorem activate_cons (b : Bool) (c : Cue) (cs : List Cue) (h : s.cue.queue = c :: cs) :
    (activate b s).cue.queue = cs ∧
      (activate b s).cue.active = some (freshActive c b (supersede s).group.runCycle) ∧
      (activate b s).cue.started = (supersede s).cue.started + 1 := by
  simp [activate, h]

theorem lookAtHead_busy (b : Bool) (h : isFree s = false) : lookAtHead b s = s := by simp [lookAtHead, h]

theorem lookAtHead_off (b : Bool) (h : s.state ≠ .run) : lookAtHead b s = s := by simp [lookAtHead, h]

/-! ### Causes -/

theorem passCause_applies (c : FaultCause) (h : applies c s.state = true) : passCause c s = faultEntry c s := by
  simp [passCause, h]

theorem passCause_fault (c : FaultCause) (h : s.state = .fault) : passCause c s = countSecondary s := by
  have ha : applies c .fault = false := by cases c <;> rfl
  simp [passCause, h, ha]

theorem passCause_else (c : FaultCause) (h : applies c s.state = false) (hs : s.state ≠ .fault) :
    passCause c s = s := by
  simp [passCause, h, hs]

theorem passLoss_idle (h : s.meas.lossDue = false) : passLoss s = s := by simp [passLoss, h]

theorem passLoss_due (h : s.meas.lossDue = true) :
    passLoss s = passCause .measLost { s with meas := { s.meas with lossDue := false } } := by
  simp [passLoss, h]

/-! ### The gate -/

theorem judgeGate_off (h : s.state ≠ .armed) (hr : s.state ≠ .run) : judgeGate s = s := by
  simp [judgeGate, h, hr]

/-- R53: a judgement moves the drive, the timer and the tag counts alone. -/
theorem judgeGate_group :
    (judgeGate s).group.pulse = s.group.pulse ∧ (judgeGate s).group.runCycle = s.group.runCycle ∧
      (judgeGate s).group.endedAtOpen = s.group.endedAtOpen := by
  unfold judgeGate driveGate clearTags; dsimp only
  (repeat' split) <;> exact ⟨rfl, rfl, rfl⟩

/-- A judgement is the state with another Group Controller. -/
theorem judgeGate_eq : judgeGate s = { s with group := (judgeGate s).group } := by
  unfold judgeGate driveGate clearTags; dsimp only
  (repeat' split) <;> rfl

/-- R60, R61: a station that stops driving keeps the causes it still has to pass. -/
theorem stopDriving_causes :
    (stopDriving s).group.timeoutDue = s.group.timeoutDue ∧ (stopDriving s).group.tagDue = s.group.tagDue := ⟨rfl, rfl⟩

/-- A station that leaves the gate for good has no cause of the gate to pass. -/
theorem leaveGate_eq : leaveGate s = { s with group := { s.group with
    drive := .notDriven, pulse := false, timerOn := false, timeoutDue := false, tagCounts := zeroCounts
    tagDue := 0 } } := rfl

/-- R58: during the gate pulse a judgement clears the tag counts of a station away from the gate, and nothing else. -/
theorem judgeGate_pulse (h : s.group.pulse = true) (hs : s.state = .armed ∨ s.state = .run) :
    judgeGate s = if atGate s then s else clearTags s := by
  unfold judgeGate
  rw [if_pos hs]
  cases atGate s <;> simp [clearTags, h]

/-- R53, R60: a ready station that waits goes on waiting. -/
theorem driveGate_waits (h : ready s = true) (hd : s.group.drive = .released) : driveGate s = s := by
  simp [driveGate, h, hd]

/-- R53, R60: a ready station that holds the line releases it and begins a wait at 0. -/
theorem driveGate_releases (h : ready s = true) (hd : s.group.drive ≠ .released) :
    driveGate s = { s with group := { s.group with drive := .released, timer := 0, timerOn := true } } := by
  simp [driveGate, h, hd]

/-- R53, R54: a station that is not ready holds the line low, and its timer stops. -/
theorem driveGate_holds (h : ready s = false) :
    driveGate s = { s with group := { s.group with drive := .heldLow, timerOn := false } } := by
  simp [driveGate, h]

/-! ### Own frames and starts -/

/-- R89: a joined, LOCKED and unbarred station begins its frame. -/
theorem beginFrame_sends (hj : s.joined = true) (hl : s.pll.sync = .locked) (hb : s.peer.barred = false) :
    beginFrame s = { s with peer := { s.peer with tx := some (ownFrame s), rx := .muted } } := by
  simp [beginFrame, hj, hl, hb]

/-- R89: where one of its conditions does not hold no frame begins. -/
theorem beginFrame_idle (h : s.joined = false ∨ s.pll.sync ≠ .locked ∨ s.peer.barred = true) : beginFrame s = s := by
  rcases h with h | h | h <;> simp [beginFrame, h]

/-- Nothing is left of the chain of starts where no start is due. -/
theorem startChain_idle (n : Nat) (h : startDue s = false) : startChain n s = s := by
  cases n <;> simp [startChain, h]

/-- The chain of starts is the row CUE_START so many times. -/
theorem startChain_succ (n : Nat) : startChain (n + 1) s = startChain n (startCue s) := by
  cases h : startDue s with
  | true => simp [startChain, h]
  | false =>
    have hc : startCue s = s := by
      unfold startCue
      split
      · rfl
      · simp [h]
    rw [hc, startChain_idle s _ h, startChain_idle s _ h]

theorem timeoutStep_idle (h : s.group.timeoutDue = false) : timeoutStep s = s := by simp [timeoutStep, h]

theorem timeoutStep_due (h : s.group.timeoutDue = true) :
    timeoutStep s = passCause .gateTimeout { s with group := { s.group with timeoutDue := false } } := by
  simp [timeoutStep, h]

theorem tagStep_idle (n : Fin 8) (h : s.group.tagDue.getLsbD n.val = false) : tagStep n s = s := by
  unfold tagStep; rw [h]; rfl

theorem tagStep_due (n : Fin 8) (h : s.group.tagDue.getLsbD n.val = true) : tagStep n s =
    passCause .tagMismatch { s with group := { s.group with tagDue := s.group.tagDue &&& ~~~(BitVec.twoPow 8 n.val) } } := by
  unfold tagStep; rw [h]; rfl

/-! ### The time base -/

/-- R74: the next sample, where the wrap does not come first. -/
theorem nextSample_some (p : PhaseLock) (h : nextMultiple p < Config.cycle) : nextSample p = some { p with
    sysAngle := nextMultiple p, arc := p.adv + (nextMultiple p - p.acc.whole), adv := 0
    acc := { whole := nextMultiple p, num := 0, den := 1 }, atEpoch := false
    pull := p.pull && decide (pullAtNext p < Config.pullWidth), pullAdv := min Config.pullWidth (pullAtNext p) } := by
  simp [nextSample, h]

/-- R73: the multiple at the wrap is the epoch's. -/
theorem nextSample_none (p : PhaseLock) (h : Config.cycle ≤ nextMultiple p) : nextSample p = none := by
  simp [nextSample, Nat.not_lt.mpr h]

/-- R73: a SAMPLE at the wrap waits for the EPOCH. -/
theorem nextStep_wrap (h : Config.cycle ≤ nextMultiple s.pll) : nextStep s = s := by
  unfold nextStep; rw [nextSample_none s.pll h]

/-- R79: the last fall of the window gives the lag, one at the closing instant a lag of 0. -/
theorem lagOf_last (p : PhaseLock) (line : SynLine) (f : Angle) (h : p.falls.getLast? = some f) (hl : line ≠ .falling) :
    lagOf p line = some (if atEpochInstant f then 0 else elapsedWhole f) := by
  simp [lagOf, h, hl]

theorem lagOf_falling (p : PhaseLock) : lagOf p .falling = some 0 := rfl

/-- R81: the founder is LOCKED with a lag of 0. -/
theorem founderStep_due (h : founderDue s = true) :
    founderStep s = becomeLocked { s with pll := { s.pll with lag := some 0 } } := by
  simp [founderStep, h, found]

theorem founderStep_idle (h : founderDue s = false) : founderStep s = s := by simp [founderStep, h]

theorem noteFall_past (f : Angle) (h : belongsToPast s f = true) : noteFall f s = s := by simp [noteFall, h]

/-- R78: a fall away from an epoch's instant is noted. -/
theorem noteFall_away (f : Angle) (hj : s.joined = true) (h : s.pll.atEpoch = false) :
    noteFall f s = { s with pll := { s.pll with falls := s.pll.falls ++ [f] } } := by
  simp [noteFall, belongsToPast, hj, h]

/-- R75: without an active cue the present sample makes no phase step. -/
theorem stepsAhead_none (freq : Bool) (h : s.cue.active = none) : stepsAhead freq s = none := by
  simp [stepsAhead, h]

/-- R75: a cue that starts and is not of duration 0 makes the only phase step of its sample. -/
theorem stepsAhead_start (freq : Bool) (a : ActiveCue) (h : s.cue.active = some a) (hc : completionDue s = false)
    (hs : (startDue s || freq) = true) (hd : a.cue.duration ≠ some 0) :
    stepsAhead freq s = stepAfter s a.cue none := by
  simp [stepsAhead, h, hc, hs, hd]

/-- R75: a sample at which no cue ends or starts makes no phase step. -/
theorem stepsAhead_steady (a : ActiveCue) (h : s.cue.active = some a) (hc : completionDue s = false)
    (hs : startDue s = false) : stepsAhead false s = none := by
  simp [stepsAhead, h, hc, hs]

/-- R75: a sample without phase steps passes a MEAS_LOST of its close at once, and its other events have rows of their
own. -/
theorem takeSample_unstepped (p : PhaseLock) (h : stepsAhead false (arrive p s) = none) :
    takeSample p s = finishWord (arriveAt false none p s) := by
  simp [takeSample, h, foldSteps]

/-- R75, R149: a sample with phase steps carries out what is due at it, and then passes a MEAS_LOST of its close. -/
theorem takeSample_stepped (p : PhaseLock) (o : Nat) (h : stepsAhead false (arrive p s) = some o) :
    takeSample p s = finishWord (settleRow (arriveAt true (some o) p s)) := by
  simp [takeSample, h, foldSteps]

theorem sampleStep_next (hj : s.joined = true) (h : s.pll.taken = .none) : sampleStep s = nextStep s := by
  simp [sampleStep, hj, h]

/-- R20: the row of a sample that was taken with an activation of its instant. -/
theorem sampleStep_taken (hj : s.joined = true) (h : s.pll.taken = .sample) : sampleStep s = endTaken s := by
  simp [sampleStep, hj, h]

theorem sampleStep_atEpoch (h : s.pll.taken = .epoch) : sampleStep s = s := by
  simp [sampleStep, h]

theorem epochStep_next (line : SynLine) (hj : s.joined = true) (h : s.pll.taken = .none) :
    epochStep line s = takeEpoch line (settle s) := by
  simp [epochStep, hj, h]

/-- R20: the row of an epoch whose sample was taken with an activation of its instant. -/
theorem epochStep_taken (line : SynLine) (hj : s.joined = true) (h : s.pll.taken = .epoch) :
    epochStep line s = endTakenEpoch line s := by
  simp [epochStep, hj, h]

theorem freqWaits_some (h : freqWaits s = true) : ∃ a f, s.cue.active = some a ∧ s.pll.pendingFreq = some f ∧
    a.cue.kind = .freq ∧ a.phase = .pendingAngle ∧ a.awaiting = false := by
  unfold freqWaits at h
  split at h
  · cases h
  · rename_i a ha
    simp only [Bool.and_eq_true, decide_eq_true_eq, Bool.not_eq_true', Option.isSome_iff_exists] at h
    obtain ⟨⟨⟨hk, hp⟩, hw⟩, f, hf⟩ := h
    exact ⟨a, f, ha, hf, hk, hp, hw⟩

/-- R86, R40: the pending frequency is made and the FREQ cue starts. -/
theorem applyFreq_starts (a : ActiveCue) (f : Nat) (ha : s.cue.active = some a) (hf : s.pll.pendingFreq = some f) :
    applyFreq true s = beginCue a { s with pll := { s.pll with runFreq := f, pendingFreq := none } } := by
  simp [applyFreq, ha, hf]

theorem applyFreq_off : applyFreq false s = s := by
  unfold applyFreq; split <;> rfl

/-! ### The word -/

/-- R135: a clamp asked for behind a sample takes the level of that sample's word. -/
theorem sendWord_clampAsked (ho : outputOn s = true) (h : s.synth.clampAsked = true) :
    (sendWord s).synth.clamp = some (sendWord s).synth.lastValue ∧ (sendWord s).synth.clampAsked = false := by
  simp [sendWord, ho, h]

theorem sendWord_due : (sendWord s).synth.wordDue = false := by
  unfold sendWord; split <;> rfl

theorem finishWord_idle (h : s.synth.wordDue = false) : finishWord s = s := by simp [finishWord, h]

theorem finishWord_busy (h : sampleBusy s = true) : finishWord s = s := by simp [finishWord, h]

theorem finishWord_sends (h : s.synth.wordDue = true) (hb : sampleBusy s = false) : finishWord s = sendWord s := by
  simp [finishWord, h, hb]

/-! ### Frames -/

/-- Every command of the port answers a next state. -/
theorem serve_next (k : State → State) : ∃ t, serve k s = .next t := ⟨_, rfl⟩

theorem serve_heard (k : State → State) (h : s.hears = true) : serve k s = .next (k (openFrame s)) := by
  simp [serve, h]

theorem serve_unheard (k : State → State) (h : s.hears = false) : serve k s = .next s := by simp [serve, h]

theorem hears_false (h : s.inReset = true ∨ s.port.deaf = true ∨ s.port.resetTaken = true) : s.hears = false := by
  rcases h with h | h | h <;> simp [State.hears, h]

@[simp] theorem bare_nil (k : State → State) : bare [] k s = k s := rfl

theorem bare_loaded (p : List Byte) (k : State → State) (h : p ≠ []) : bare p k s = answer .badLength [] s := by
  cases p <;> simp_all [bare]

theorem cutReply_none (h : s.port.reply = none) : cutReply s = s := by simp [cutReply, h]

/-- R182: a reply cut is dropped, its frame is closed, and the cut is counted. -/
theorem cutReply_some (h : s.port.reply.isSome = true) : cutReply s = { s with
    port := { s.port with reply := none, stage := .closed, frameCuts := min 255 (s.port.frameCuts + 1) }
    alert := { s.alert with pending := s.alert.pending ||| BitVec.twoPow 14 13 } } := by
  obtain ⟨r, hr⟩ := Option.isSome_iff_exists.mp h
  simp only [cutReply, hr]; rfl

/-- R182: a frame behind a complete reply cuts none. -/
theorem openFrame_complete (h : s.port.reply = none) : openFrame s = endCommand s := by simp [openFrame, cutReply_none s h]

/-- R177: the summary byte of a frame that CSN_HIGH_SEEN began is the one taken at the fall of CSN. -/
theorem openFrame_summary (hr : s.port.reply = none) (h : s.port.stage = .command) :
    (openFrame s).port.summary = s.port.summary := by
  simp [openFrame_complete s hr, endCommand, h]

/-- R183, R177: the row does nothing in a reset, closes a frame or a deaf wait, and begins a frame at a port with CSN
high. -/
theorem watchCsn_cases : watchCsn s = s ∨ watchCsn s = seeCsnHigh s ∨ watchCsn s = beginCommand s := by
  unfold watchCsn; (repeat' split) <;> simp

theorem commandOut_cons (b : Byte) (n : Nat) : commandOut b (n + 1) = b :: List.replicate n 0x00#8 := by
  simp [commandOut]

/-! ### Switches -/

theorem takeDueClosing_switchLaw (h : (s.sw.sw0 && s.sw.sw1) = false) :
    ((takeDueClosing s).sw.sw0 && (takeDueClosing s).sw.sw1) = false := by
  unfold takeDueClosing closeSw0 closeSw1 setTransition reportSwitch
  (repeat' split) <;> simp_all

/-- R142: no request closes both switches. -/
theorem doSwitch_switchLaw (r : SwitchRequest) (h : (s.sw.sw0 && s.sw.sw1) = false) :
    ((doSwitch r s).sw.sw0 && (doSwitch r s).sw.sw1) = false := by
  have ht := takeDueClosing_switchLaw s h
  unfold doSwitch closeSw0 openSw0 openSw1 setTransition reportSwitch; dsimp only
  (repeat' split) <;> simp_all

theorem stopSwitches_switchLaw (h : (s.sw.sw0 && s.sw.sw1) = false) :
    ((stopSwitches s).sw.sw0 && (stopSwitches s).sw.sw1) = false := by
  have ht := takeDueClosing_switchLaw s h
  unfold stopSwitches setTransition; dsimp only
  split <;> simp_all

/-- R160: an offer keeps the law of the Report Queue. -/
theorem offer_reportLaw (r : Record)
    (h : s.report.records.length ≤ 24 ∧ s.report.lostCount ≤ 255 ∧
      (s.report.lost = false ↔ s.report.lostCount = 0)) :
    (offer r s).report.records.length ≤ 24 ∧ (offer r s).report.lostCount ≤ 255 ∧
      ((offer r s).report.lost = false ↔ (offer r s).report.lostCount = 0) := by
  unfold offer Config.reportCapacity
  (repeat' split) <;> simp_all <;> omega

end Sys2Proof.Laws
end

