-- ==== Sys2Proof/Tests/Slice0.lean ====
section
/-! SUPPORT. The writer's own tests: ill-formed commands, frames and codes of the spec's examples, single steps, and for
every statement with hypotheses a state and operands that meet them. -/

namespace Sys2Proof.Tests

set_option Elab.async false

open Sys2Proof Sys2Proof.Machine Sys2Proof.Claims

/-! ### Ill-formed commands are refused -/

theorem test_payload_of_65_is_ill_formed : (Instr.cue (List.replicate 65 0#8)).wellFormed = false := by decide
theorem test_payload_of_64_is_well_formed : (Instr.cue (List.replicate 64 0#8)).wellFormed = true := by decide
theorem test_unknown_with_known_code_is_ill_formed : (Instr.unknownCommand 0x10#8 []).wellFormed = false := by decide
theorem test_unknown_with_free_code_is_well_formed : (Instr.unknownCommand 0x7F#8 []).wellFormed = true := by decide
theorem test_good_check_is_no_bad_frame : (Instr.badCheckFrame 0x01#8 [] 0x15#8).wellFormed = false := by decide +kernel
theorem test_bad_check_is_well_formed : (Instr.badCheckFrame 0x01#8 [] 0x14#8).wellFormed = true := by decide +kernel
theorem test_len_64_is_no_len_above : (Instr.lenAbove64 0x01#8 64#8).wellFormed = false := by decide
theorem test_len_65_is_well_formed : (Instr.lenAbove64 0x01#8 65#8).wellFormed = true := by decide
theorem test_short_peer_frame_is_ill_formed : (Instr.peerFrameReceived [0#8]).wellFormed = false := by decide
theorem test_fall_past_the_cycle_is_ill_formed : (Instr.syncFallNoted 3600 0 1).wellFormed = false := by decide
theorem test_fall_with_whole_fraction_is_ill_formed : (Instr.syncFallNoted 10 1 1).wellFormed = false := by decide
theorem test_interval_of_100_is_ill_formed :
    (Instr.decimatorResult .voltage (List.replicate 100 true)).wellFormed = false := by decide

/-! ### Frames, codes, numbers of the spec's examples -/

/-- R190: the check of the nine characters 1 to 9. -/
theorem test_crc_of_digits :
    crc8 [0x31#8, 0x32#8, 0x33#8, 0x34#8, 0x35#8, 0x36#8, 0x37#8, 0x38#8, 0x39#8] = 0xF4#8 := by decide +kernel

/-- R190: the bytes of a STATUS command. -/
theorem test_status_frame : commandFrame 0x01#8 [] = [0x01#8, 0x00#8, 0x15#8] := by decide +kernel

theorem test_status_is_read : readCommand [0x01#8, 0x00#8, 0x15#8] = some (.status []) := by decide +kernel
theorem test_bad_check_is_read : readCommand [0x01#8, 0x00#8, 0x16#8] = some (.badCheckFrame 0x01#8 [] 0x16#8) := by
  decide +kernel
theorem test_len_above_is_read : readCommand [0x10#8, 0x41#8] = some (.lenAbove64 0x10#8 0x41#8) := by decide
theorem test_unfinished_is_not_read : readCommand [0x01#8, 0x00#8] = none := by decide
theorem test_take_is_read : readCommand (commandFrame 0x30#8 [4#8]) = some (.take [4#8]) := by decide +kernel
theorem test_span_of_take : readSpan ((commandFrame 0x30#8 [4#8]).flatMap byteBits ++ [true]) = .take [4#8] := by
  decide +kernel
theorem test_span_cut_in_its_check : readSpan (((commandFrame 0x01#8 []).flatMap byteBits).take 23) = .commandCut 23 := by
  decide +kernel
theorem test_last_edge_completes_the_reply :
    replyRow { result := .ok, bytes := [] } 2 40 = .replyComplete ∧
    replyRow { result := .ok, bytes := [] } 2 39 = .replyCut := by decide +kernel
theorem test_no_table_word : decodeTableWord 8 1 = none := rfl

/-- R134: the set of the example, orders 3 and 5 at 1000 and 3000. -/
def exampleSet : List HarmonicEntry :=
  [{ order := 3, amplitude := 1000, phase := 0 }, { order := 5, amplitude := 3000, phase := 0 }]

theorem test_rms_factor_of_example : rmsFactor exampleSet = 1049 := by decide +kernel
theorem test_rms_factor_of_empty_set : rmsFactor [] = 1000 := by decide +kernel
theorem test_greatest_rms_factor :
    rmsFactor (List.replicate 12 { order := 2, amplitude := 3000, phase := 0 }) = 1442 := by decide +kernel

/-- The Synthesizer with the example's set active. -/
def exampleSynth (envelope : Nat) (es : List HarmonicEntry) : Synth :=
  { envelope := envelope, activeSet := .set 0, sets := [{ entries := es, factor := 1049 }] }

theorem test_word_at_1000 : wordOf (outputValue (exampleSynth 1000 exampleSet) 900) = 314572#20 := by decide +kernel
theorem test_word_at_1500 : wordOf (outputValue (exampleSynth 1500 exampleSet) 900) = 471858#20 := by decide +kernel

theorem test_clipped_word :
    wordOf (limitTo clipValue (outputValue (exampleSynth 1500
      [{ order := 3, amplitude := 1000, phase := 1800 }, { order := 5, amplitude := 3000, phase := 0 }]) 900))
      = 524287#20 := by decide +kernel

theorem test_comb_weights : (List.range 12).all (fun j => combWeight 4 j == waysOf 4 j) = true := by decide +kernel
theorem test_comb_density_one : combResult 4 (List.replicate 10 true) = 32767 := by decide +kernel
theorem test_comb_density_zero : combResult 4 (List.replicate 10 false) = -32767 := by decide +kernel
theorem test_crossing_reached : crossings 5 5 = 0 ∧ crossings 0 5 = 1 ∧ crossings 1800 5 = 1 ∧ crossings 3 3600 = 2 := by
  decide
theorem test_angle_at_arc_start_is_not_reached : reached 100 105 5 = false ∧ reached 105 105 5 = true := by decide
theorem test_ramp_half_way : rampLevel 1000 400 3600 1800 = 700 ∧ rampLevel 0 1000 3600 3600 = 1000 := by decide

/-! ### States and cues -/

/-- The station after reset, in another state. -/
def inState (st : StationState) : State := { State.reset with state := st }

/-- The same, LOCKED. -/
def lockedIn (st : StationState) : State := { inState st with pll := { sync := .locked } }

/-- A LEVEL cue. -/
def levelCue (gate : CueGate) (duration : Nat) : Cue where
  tag := 100
  kind := .level
  gate := gate
  startAngle := none
  angleRef := none
  ampA := some 1000
  ampA2 := none
  duration := some duration
  rampLength := none
  phaseDelta := none
  frequency := none
  rate := none
  harmonicSet := none
  switchMode := none
  check := false
  tolerance := none

def endCueOf : Cue := { levelCue .group 0 with kind := .endRun, ampA := none, duration := none }

def gapCue (gate : CueGate) (m : SwitchMode) : Cue :=
  { levelCue gate 2 with kind := .gap, ampA := none, switchMode := some m }

def rampCue : Cue := { levelCue .localCue 4 with kind := .ramp, rampLength := some 2, tag := 65534, ampA := some 1500 }

def freqCue : Cue := { levelCue .group 0 with kind := .freq, frequency := some 7000 }

def harmonicCue (n : Nat) : Cue := { levelCue .group 1 with kind := .harmonic, harmonicSet := some (.set n) }

def withQueue (q : List Cue) (s : State) : State := { s with cue := { s.cue with queue := q } }

def withActive (a : ActiveCue) (s : State) : State := { s with cue := { s.cue with active := some a } }

/-- A cue past its activation sample. -/
def waitingCue (c : Cue) : ActiveCue := freshActive c true 0

/-- A RUNNING cue. -/
def runningCue (c : Cue) (advance : Nat) : ActiveCue :=
  { freshActive c true 0 with phase := .running, advance := advance, startCycle := some 0, startAngle := some 0 }

/-- A frame of station 2. -/
def frameOf2 (st : StationState) (tag : Option Nat) : PeerFrame where
  number := 2
  phase := .l1
  state := st
  lock := true
  limiting := false
  gateTag := tag
  activeTag := none
  cause := if st = .fault then some .overload else none
  vRms := some 1000
  iRms := some 500
  groupSize := 1
  nominal := 5000

def entryOf2 (e : PeerEntry) (s : State) : State := { s with peer := { s.peer with table := s.peer.table.set 2 e } }

def listening (s : State) : State := { s with peer := { s.peer with rx := .listening } }

/-! ### Single steps -/

/-- What a command makes of a state. -/
def after (c : Instr) (s : State) : State :=
  match exec c s with
  | .next t => t
  | .fault _ => s
  | .refused _ => s

theorem test_join : (after (.join []) State.reset).state = .enroll := by decide +kernel
theorem test_join_refused : ((after (.join []) (inState .run)).port.reply.map Reply.result) = some .state := by
  decide +kernel
theorem test_setup : (after (.setup ({ nominal := 6000, groupSize := 3 } : Setup).payload) State.reset).setup.nominal = 6000 := by
  decide +kernel
theorem test_hset :
    (after (.hset (hsetPayload 3 exampleSet)) State.reset).synth.sets.getD 3 {} = { entries := exampleSet, factor := 1049 } := by
  decide +kernel
theorem test_hset_repeated_order :
    ((after (.hset (hsetPayload 3 (exampleSet ++ exampleSet))) State.reset).port.reply.map Reply.bytes) = some [8#8] := by
  decide +kernel
theorem test_cue : (after (.cue (levelCue .group 0).payload) State.reset).cue.queue = [levelCue .group 0] := by
  decide +kernel
theorem test_cue_missing_field :
    ((after (.cue ({ levelCue .group 0 with duration := none } : Cue).payload) State.reset).port.reply.map
      (fun r => (r.result, r.bytes))) = some (.missingField, [7#8]) := by decide +kernel
theorem test_flush_counts : (after (.flush []) (withQueue [endCueOf, endCueOf] State.reset)).cue.discarded = 2 := by
  decide +kernel
theorem test_arm_of_one : (after (.arm []) (withQueue [endCueOf] (lockedIn .enroll))).group.drive = .released := by
  decide +kernel
theorem test_disarm : (after (.disarm []) (inState .armed)).state = .enroll := by decide +kernel
theorem test_abort : (after (.abort []) (inState .enroll)).fault.cause = some .hostAbort := by decide +kernel
theorem test_clear_fault : (after (.clearFault []) (after (.abort []) (inState .enroll))).state = .enroll := by
  decide +kernel
theorem test_leave : (after (.leave []) (lockedIn .enroll)).alert.pending = 64#14 := by decide +kernel
theorem test_take : ((after (.take [1#8]) { State.reset with report := { records := [.loss 7] } }).port.reply.map
    Reply.bytes) = some [1#8, 6#8, 1#8, 7#8] := by decide +kernel
theorem test_clear_loss :
    (after (.clearLoss []) { State.reset with report := { lost := true, lostCount := 2 } }).report =
      { records := [.loss 2] } := by decide +kernel
theorem test_alert_next :
    (after (.alertNext []) { State.reset with alert := { pending := 3#14, enable := 3#14 } }).alert.stack =
      [{ cause := .fault, priority := 3 }] := by decide +kernel
theorem test_alert_done :
    (after (.alertDone []) { State.reset with alert := { stack := [{ cause := .fault, priority := 3 }] } }).alert.stack =
      [] := by decide +kernel
theorem test_alert_set :
    (after (.alertSet (alertPayload 1#14 (List.replicate 14 2) 3)) State.reset).alert.threshold = 3 := by decide +kernel
theorem test_peers : ((after (.peers []) State.reset).port.reply.map (fun r => r.bytes.length)) = some 128 := by
  decide +kernel
theorem test_status : ((after (.status []) State.reset).port.reply.map (fun r => r.bytes.length)) = some 36 := by
  decide +kernel
theorem test_status_clears_flag : (after .replyComplete (after (.status []) State.reset)).port.powerOn = false := by
  decide +kernel
theorem test_reset_keeps_sets :
    (after .commandReset (after (.reset []) (after (.hset (hsetPayload 0 exampleSet)) State.reset))).synth.sets.getD 0 {} =
      { entries := exampleSet, factor := 1049 } := by decide +kernel
theorem test_pin_reset_empties_sets :
    (after .pinReset (after (.hset (hsetPayload 0 exampleSet)) State.reset)).synth.sets.getD 0 {} = {} := by decide +kernel
theorem test_reset_end : (after (.resetEnd 5 true false true) (after .pinReset State.reset)).straps =
    { number := 5, phase := .l3 } := by decide +kernel
theorem test_unknown : ((after (.unknownCommand 0x7F#8 []) State.reset).port.reply.map Reply.result) = some .unknown := by
  decide +kernel
theorem test_command_cut : (after (.commandCut 3) State.reset).port.frameCuts = 1 := by decide +kernel
theorem test_sample : (after .sample (lockedIn .enroll)).pll.sysAngle = 5 := by decide +kernel
theorem test_sample_waits_at_wrap :
    after .sample { lockedIn .enroll with pll := { sync := .locked, acc := { whole := 3595 } } } =
      { lockedIn .enroll with pll := { sync := .locked, acc := { whole := 3595 } } } := by decide +kernel
theorem test_founder :
    (after .founder { inState .enroll with pll := { silentCount := 2 } }).pll.sync = .locked ∧
    (after .founder { inState .enroll with pll := { silentCount := 2 } }).pll.lag = some 0 := by decide +kernel

/-- The EPOCH sends the word of the sample at 0; the SAMPLE behind it is the one at 5. -/
theorem test_epoch_takes_its_sample :
    (after (.epoch .high) (lockedIn .enroll)).synth.wordDue = false ∧
    (after .sample (after (.epoch .high) (lockedIn .enroll))).pll.sysAngle = 5 := by decide +kernel
theorem test_epoch_without_fall : (after (.epoch .high) (inState .enroll)).pll.silentCount = 1 := by decide +kernel
theorem test_epoch_lag :
    (after (.epoch .low) { inState .enroll with pll := { falls := [{ whole := 1599, num := 3, den := 5 }] } }).pll.lag =
      some 2000 := by decide +kernel

/-- R79: the last fall gives the lag, also behind one of the JOIN's own instant. -/
theorem test_last_fall_gives_lag :
    (after (.epoch .low) { inState .enroll with pll := { falls := [{}, { whole := 1600 }] } }).pll.lag = some 2000 := by
  decide +kernel

/-- R78: behind a snap to 3597 no sample parts the epochs, and a fall at 0 is of the next one. -/
theorem test_fall_behind_late_snap_is_noted :
    (after (.syncFallNoted 0 0 1) { inState .enroll with pll := { atEpoch := true, acc := { whole := 3597 } } }).pll.falls =
      [{}] := by decide +kernel
theorem test_frame_filed :
    ((after (.peerFrameReceived (frameOf2 .enroll none).bytes) (listening (inState .enroll))).entry 2).present = true := by
  decide +kernel
theorem test_frame_with_bad_check_is_dropped :
    after (.peerFrameReceived (List.replicate 16 1#8)) (listening (inState .enroll)) = listening (inState .enroll) := by
  decide +kernel
theorem test_byte_on_the_line :
    byteOnLine 0xA6#8 = [false, true, false, true, false, false, true, true, false, true] := by decide
theorem test_frame_is_read_from_its_bits :
    receivedRow (frameOf2 .run none).lineBits = .peerFrameReceived (frameOf2 .run none).bytes := by decide +kernel
theorem test_low_stop_bit_abandons :
    receivedRow ((frameOf2 .run none).lineBits.set 159 false) = .receiverAbandonsFrame ∧
    receivedRow ((frameOf2 .run none).lineBits.set 10 true) = .receiverAbandonsFrame := by decide +kernel
theorem test_pulled_bit_clashes :
    sentRow (frameOf2 .run none) ((List.replicate 160 true).set 9 false) = .readbackMismatch ∧
    sentRow (frameOf2 .run none) ((List.replicate 160 true).set 0 false) = .peerFrameSent := by decide +kernel
theorem test_line_is_released_behind_the_frame :
    datLevel { tx := some (frameOf2 .run none) } 0 = false ∧ datLevel { tx := some (frameOf2 .run none) } 160 = true := by
  decide +kernel
theorem test_word_on_ddat : (wordBits 0x80001#20).take 2 = [true, false] ∧ (wordBits 0x80001#20).getD 19 false = true := by
  decide
theorem test_readback :
    (after .readbackMismatch { inState .enroll with peer := { tx := some (frameOf2 .enroll none) } }).fault.cause =
      some .slotClash := by decide +kernel
theorem test_gap_opens_switch :
    (after .cueStart { withActive (waitingCue (gapCue .localCue .lowZ)) (inState .run) with
      sw := { sw0 := true } }).sw = { pending := some ⟨.sw1, 2⟩ } := by decide +kernel
theorem test_end_cue_asks_stop : (after .cueStart (withActive (waitingCue endCueOf) (inState .run))).synth.stop = true := by
  decide +kernel
theorem test_completion_goes_dry :
    (after .cueCompletion (withActive (runningCue (levelCue .localCue 1) 1800) (inState .run))).cue.active = none := by
  decide +kernel
theorem test_stop_of_end_cue_closes_run :
    (after .stopCompletion { withActive { runningCue endCueOf 0 with stopRequested := true } (inState .run) with
      synth := { stop := true, stopDue := true } }).state = .enroll := by decide +kernel
theorem test_interlock_refuses :
    (after .pendingTransitionClose { inState .run with sw := { sw1 := true, pending := some ⟨.sw0, 0⟩ } }).sw =
      { sw1 := true } := by decide +kernel
theorem test_csn_fall_takes_summary :
    (after .csnHighSeen (inState .run)).port.stage = .command ∧
    (after (.status []) { after .csnHighSeen (inState .run) with state := .fault }).port.summary =
      summaryByte (inState .run) := by decide +kernel
theorem test_csn_rise_cuts_reply : (after .csnHighSeen (after (.status []) (inState .run))).port.frameCuts = 1 := by
  decide +kernel

/-- R182: the next frame shows that CSN has risen before the reply was complete. -/
theorem test_next_frame_cuts_reply :
    (after (.flush []) (after (.status []) (inState .run))).port.frameCuts = 1 ∧
    (after (.flush []) (after (.status []) (inState .run))).alert.pending = 8192#14 := by decide +kernel

/-- R176: a span without edges behind an answered frame leaves CSN high. -/
theorem test_empty_span_closes_answered_frame :
    (let s := after (.commandCut 0) (after .replyComplete (after (.status []) (inState .run)))
     s.port.stage = .closed ∧ sdoDriven s = false ∧ s.port.frameCuts = 0) := by decide +kernel
theorem test_frame_keeps_spare_bits :
    (readFrame { frameOf2 .run none with spare := 5 }.bytes).map PeerFrame.spare = some 5#3 := by decide +kernel

/-- R25, R32: the cut of an epoch's SYNC_LOST reports the half-cycle that ends with the epoch's sample. -/
theorem test_sync_lost_counts_last_sample :
    (after (.epoch .low) { withActive (runningCue (levelCue .group 9) 1795) (inState .run) with
      pll := { sync := .locked, acc := { whole := 3595 } }
      meas := { v := { produced := 1 }, i := { produced := 1 } } }).report.records.map
      (fun r => match r with | .cueEnd e => some e.halfCycles | _ => none) = [some 1, none] := by decide +kernel

/-- R108, R112: a GATE_TIMEOUT of the epoch at which SYNC_LOST made the entry is a secondary cause. -/
theorem test_timeout_after_sync_lost_is_secondary :
    (after .gateTimeout (after (.epoch .low) { lockedIn .run with
      group := { timer := 49, timerOn := true }
      meas := { v := { produced := 1 }, i := { produced := 1 } } })).fault.secondary = 1 := by decide +kernel

/-- R75: the phase step of a cue that starts at the sample decides where the sample's arc lies. -/
theorem test_phase_step_moves_the_arc :
    (let s : State := { withActive { waitingCue { levelCue .group 1 with kind := .phase, phaseDelta := some 1700 } with
          awaiting := true } (lockedIn .run) with
        pll := { sync := .locked, acc := { whole := 95 } }
        meas := { v := { produced := 1 }, i := { produced := 1 } }
        synth := { clamp := some 1 } }
     (after .sample s).synth.clamp = none ∧ (after .sample s).synth.stepOffset = 1700) := by decide +kernel

/-- Log 36: a sample with a phase step has its MEAS_LOST behind the step. -/
theorem test_step_comes_before_meas_lost :
    (let s : State := { withActive { waitingCue { levelCue .group 1 with kind := .phase, phaseDelta := some 1700 } with
          awaiting := true } (lockedIn .run) with pll := { sync := .locked, acc := { whole := 95 } } }
     (after .sample s).fault.cause = some .measLost ∧ (after .sample s).synth.stepOffset = 1700 ∧
       (after .sample s).cue.ended = 1) := by decide +kernel

/-- R75, R149: a PHASE cue that starts at the epoch's sample makes its step there, and a SYNC_LOST of the judgement behind it
cuts the cue. -/
theorem test_sync_lost_behind_step :
    (let s : State := { withActive (freshActive { levelCue .group 1 with kind := .phase, phaseDelta := some 300 } false 0)
          (lockedIn .run) with
        pll := { sync := .locked, acc := { whole := 3595 } }
        meas := { v := { produced := 1 }, i := { produced := 1 } } }
     (after (.epoch .low) s).fault.cause = some .syncLost ∧ (after (.epoch .low) s).synth.stepOffset = 300 ∧
       (after (.epoch .low) s).cue.ended = 1) := by decide +kernel
theorem test_clamp_waits_for_the_word :
    (requestClamp { inState .run with synth := { wordDue := true } }).synth.clampAsked = true ∧
    (sendWord { inState .run with synth := { wordDue := true, clampAsked := true } }).synth.clamp = some 0 := by
  decide +kernel
theorem test_withheld_interval :
    (after (.decimatorResult .voltage (List.replicate 128 true)) { inState .run with meas := { running := true } }).meas.v.settle =
      3 := by decide +kernel

/-- A station in RUN at the gate, one sample before the angle 5, with a cue of duration 0 held open and the activation of
its successor as far as `h`. -/
def heldOpen (h : Handover) (q : List Cue) : State :=
  let s := withActive (runningCue (levelCue .group 0) 1795) (lockedIn .run)
  { s with cue := { s.cue with queue := q, handover := h }, group := { drive := .released, timerOn := true } }

/-- The same, one sample before an epoch. -/
def openAtEpoch (h : Handover) (q : List Cue) : State :=
  { heldOpen h q with
    pll := { sync := .locked, acc := { whole := 3595 } }
    meas := { v := { produced := 1 }, i := { produced := 1 } } }

/-- The CUE_END records of a state: outcome and half-cycles. -/
def cueEnds (s : State) : List (CueOutcome × Nat) :=
  s.report.records.filterMap (fun r => match r with | .cueEnd e => some (e.outcome, e.halfCycles) | _ => none)

/-- R20, R26: an opening behind the announcement takes the coming sample: the open cue has its arc, the head is at its
activation sample, and the sample's own row does not move the angle again. -/
theorem test_opening_takes_the_sample :
    (after .cueCompletion (heldOpen .none [freqCue])).cue.handover = .announced ∧
    (let s := after .gateOpening (heldOpen .announced [freqCue])
     s.cue.active.map (fun a => (a.cue, a.awaiting)) = some (freqCue, false) ∧ s.cue.handover = .none ∧
     s.pll.sysAngle = 5 ∧ cueEnds s = [(.done, 1)] ∧
     (after .sample s).pll.sysAngle = 5 ∧ (after .sample s).pll.taken = .none) := by decide +kernel
theorem test_opening_activates_at_its_instant :
    (after .gateOpening (heldOpen .none [freqCue])).cue.active.map (fun a => (a.cue, a.awaiting)) =
      some (freqCue, true) := by decide +kernel
theorem test_append_takes_the_sample :
    (let s := after (.cue (levelCue .localCue 3).payload) (heldOpen .announced [])
     s.cue.active.map ActiveCue.cue = some (levelCue .localCue 3) ∧ s.cue.ended = 1 ∧ s.pll.taken = .sample) := by
  decide +kernel
/-- R8: the activation taken first leaves 31 queued cues, and the CUE is accepted at 32. -/
theorem test_cue_behind_opening_is_accepted :
    (after (.cue (levelCue .group 3).payload)
      (after .gateOpening (heldOpen .announced (freqCue :: List.replicate 31 endCueOf)))).cue.queue.length = 32 := by
  decide +kernel
/-- R32: a fault behind the opening cuts the head it activated; its predecessor has ended with the sample's arc. -/
theorem test_abort_behind_opening_cuts_head :
    cueEnds (after (.abort []) (after .gateOpening (heldOpen .announced [freqCue]))) = [(.done, 1), (.cut, 0)] := by
  decide +kernel
theorem test_flush_behind_opening_leaves_head :
    (let s := after (.flush []) (after .gateOpening (heldOpen .announced [freqCue, endCueOf]))
     s.cue.active.map ActiveCue.cue = some freqCue ∧ s.cue.discarded = 1 ∧ cueEnds s = [(.done, 1)]) := by decide +kernel
/-- R73: the row of an epoch whose sample the opening has taken counts no second cycle; SAMPLE waits for it. -/
theorem test_epoch_behind_its_taken_sample :
    (let s := after .gateOpening (openAtEpoch .announced [freqCue])
     s.pll.taken = .epoch ∧ s.group.runCycle = 1 ∧ after .sample s = s ∧
     (after (.epoch .falling) s).group.runCycle = 1 ∧ (after (.epoch .falling) s).pll.taken = .none ∧
     (after (.epoch .falling) s).pll.runFreq = 5000) := by decide +kernel
/-- R158, R20: a MEAS_LOST of the taken sample is passed by that sample's own row and cuts the head. -/
theorem test_loss_waits_for_the_taken_sample :
    (let s := after .gateOpening { heldOpen .announced [freqCue] with pll := { sync := .locked, acc := { whole := 1795 } } }
     s.state = .run ∧ s.meas.lossDue = true ∧ (after .sample s).fault.cause = some .measLost ∧
     cueEnds (after .sample s) = [(.done, 1), (.cut, 0)]) := by decide +kernel
/-- R20, R25: the row of a completion that a sample with a phase step has made announces nothing for the open cue that has
started behind it. -/
theorem test_made_completion_announces_nothing :
    (let c := { levelCue .localCue 0 with kind := .phase, phaseDelta := some 900 }
     let s := after .sample (withQueue [c] (withActive (runningCue (levelCue .localCue 1) 1795) (lockedIn .run)))
     s.cue.active.map (fun a => (a.cue, a.phase)) = some (c, .running) ∧ s.cue.handover = .made ∧
     (after .cueCompletion s).cue.handover = .none ∧
     (after .cueCompletion (after .cueCompletion s)).cue.handover = .announced) := by decide +kernel

/-- Log 36: a LOCAL PHASE cue that comes behind a sample whose cue still ends is taken behind that end. -/
theorem test_late_phase_cue_waits_for_the_chain :
    (let s := withActive (runningCue (levelCue .localCue 1) 1800) (inState .run)
     (after (.cue { levelCue .localCue 1 with kind := .phase, phaseDelta := some 900 }.payload) s).cue.active.map
       (fun a => (a.cue.kind, a.awaiting)) = some (.phase, true)) := by decide +kernel

/-- The laws that two statements assume. -/
def lawful (s : State) : Bool := decide (QueueLaw s) && decide (StopLaw s)

/-! ### Witnesses: states and operands that meet a statement's hypotheses -/

theorem witness_StepRunsFrontCommand :
    ({ State.reset with pending := [.sample] } : State).pending = .sample :: [] := rfl

theorem witness_QueueIsFirstInFirstOut : State.reset.pending = [] := rfl

theorem witness_BadFramesOnlyReply :
    (inState .run).hears = true ∧ ({ State.reset with inReset := true } : State).inReset = true ∧
    ({ State.reset with port := { deaf := true } } : State).port.deaf = true ∧
    ({ State.reset with port := { resetTaken := true } } : State).port.resetTaken = true ∧
    commandOf (0x00#8 : Byte).toNat [] = none ∧ commandOf (0xFF#8 : Byte).toNat [] = none ∧
    crc8 (0x01#8 :: BitVec.ofNat 8 0 :: []) ≠ 0x14#8 ∧ 64 < (65#8 : Byte).toNat ∧
    ([] : List Byte).length ≤ 64 ∧ (List.replicate 64 0#8).length ≤ 64 := by decide +kernel

/-- A station whose frame stands at a stage, with or without a reply under shift. -/
def atStage (stage : FrameStage) (reply : Option Reply) : State :=
  { State.reset with port := { stage := stage, reply := reply } }

theorem witness_CutsAreCounted :
    State.reset.hears = true ∧ (1 : Nat) ≠ 0 ∧ (atStage .answering none).port.stage ≠ .command ∧
    (atStage .command none).port.stage = .command ∧ State.reset.port.reply = none ∧
    (after (.status []) State.reset).hears = true ∧ (after (.status []) State.reset).port.reply.isSome = true ∧
    (after .replyComplete (after (.status []) State.reset)).port.stage = .answering ∧
    ([] : List Bool).length < 16 ∧ (64#8 : Byte).toNat ≤ 64 ∧
    (List.replicate 519 true).length < 8 * ((64#8 : Byte).toNat + 1) := by decide +kernel

theorem witness_CompleteReplyTakesEffect :
    (atStage .answering (some { result := .ok, bytes := [], carried := 2 })).port.reply =
      some { result := .ok, bytes := [], carried := 2 } ∧
    (atStage .answering (some { result := .ok, bytes := [], isStatus := true })).port.stage = .answering ∧
    State.reset.port.reply = none ∧ State.reset.port.stage = .closed ∧
    (atStage .command none).port.stage = .command ∧ (atStage .answering none).port.reply = none := by decide

theorem witness_StatusOnlyReplies :
    State.reset.hears = true ∧ State.reset.cue.queue.length ≤ 32 ∧ State.reset.report.records.length ≤ 24 ∧
    State.reset.report.lostCount ≤ 255 ∧ State.reset.port.frameCuts ≤ 255 ∧ State.reset.pll.runFreq ≤ 7000 ∧
    (∀ a, (withActive (runningCue rampCue 0) (inState .run)).cue.active = some a → a.cue.tag ≤ 65534) := by
  refine ⟨by decide, by decide, by decide, by decide, by decide, by decide, ?_⟩
  intro a h; cases h; decide

/-- The setup with every field at the upper end of its range. -/
def topSetup : Setup where
  nominal := 7000
  groupSize := 8
  phaseOffset := 3599
  gateLimit := 250
  tolerance := 200
  missLimit := 255
  checkSkip := 3
  currentLimit := 300
  limitHold := 200
  shareLimit := 1000
  watermark := 31
  ratio := 256
  breakGap := 20

theorem default_setup_in_range (i : Nat) : setupFieldOk {} i := by
  unfold setupFieldOk; split <;> decide

theorem top_setup_in_range (i : Nat) : setupFieldOk topSetup i := by
  unfold setupFieldOk topSetup; split <;> decide

theorem in_range_before_break_gap (j : Nat) (h : j < 12) : setupFieldOk { breakGap := 21 } j := by
  unfold setupFieldOk; split <;> first | decide | omega

/-- Every field in its range, and the first and the last field outside it. -/
theorem witness_SetupReplacesWholeSetup :
    (∀ i < 13, setupFieldOk {} i) ∧
    (∀ i < 13, setupFieldOk topSetup i) ∧
    setupFits { nominal := 3999 } ∧ ¬ setupFieldOk { nominal := 3999 } 0 ∧
    setupFits { breakGap := 21 } ∧ (∀ j < 12, setupFieldOk { breakGap := 21 } j) ∧ ¬ setupFieldOk { breakGap := 21 } 12 ∧
    State.reset.hears = true ∧ State.reset.state = .config ∧ (inState .run).state ≠ .config :=
  ⟨fun i _ => default_setup_in_range i, fun i _ => top_setup_in_range i, by simp [setupFits], by simp [setupFieldOk],
    by simp [setupFits], in_range_before_break_gap, by simp [setupFieldOk], by decide, by decide, by decide⟩

theorem witness_ResetsLeaveResetValues :
    State.reset.hears = true ∧ (after (.reset []) State.reset).port.resetTaken = true ∧
    State.reset.port.resetTaken = false ∧ (after .pinReset State.reset).inReset = true ∧
    State.reset.inReset = false ∧ State.reset.port.deaf = false ∧ State.reset.port.stage = .closed ∧
    ({ State.reset with port := { deaf := true } } : State).port.deaf = true ∧
    (atStage .command none).port.stage ≠ .closed ∧ (atStage .answering none).port.reply = none ∧
    (atStage .answering (some { result := .ok, bytes := [] })).port.reply.isSome = true := by decide +kernel

theorem valid_level (g : CueGate) : validCue State.reset.synth.sets (levelCue g 0) := by
  simp [validCue, presentIff, levelCue]

theorem valid_end : validCue State.reset.synth.sets endCueOf := by simp [validCue, presentIff, endCueOf, levelCue]

theorem valid_ramp : validCue State.reset.synth.sets rampCue := by simp [validCue, presentIff, rampCue, levelCue]

theorem valid_gap : validCue State.reset.synth.sets (gapCue .localCue .lowZ) := by
  simp [validCue, presentIff, gapCue, levelCue]

theorem valid_freq : validCue State.reset.synth.sets freqCue := by simp [validCue, presentIff, freqCue, levelCue]

theorem witness_CuePayloadRoundTrip :
    validCue State.reset.synth.sets (levelCue .localCue 0) ∧ validCue State.reset.synth.sets endCueOf ∧
    validCue State.reset.synth.sets rampCue ∧ validCue State.reset.synth.sets (gapCue .localCue .lowZ) ∧
    validCue State.reset.synth.sets freqCue :=
  ⟨valid_level _, valid_end, valid_ramp, valid_gap, valid_freq⟩

/-- A LOCAL PHASE cue. -/
def localPhase : Cue := { levelCue .localCue 1 with kind := .phase, phaseDelta := some 900 }

theorem valid_phase : validCue State.reset.synth.sets localPhase := by
  simp [validCue, presentIff, localPhase, levelCue]

/-- A station in RUN whose cue ends at the present sample. -/
def beforeItsEnd : State := withActive (runningCue (levelCue .localCue 1) 1800) (inState .run)

/-- No cue of the sample still to end or to start, and one that is. -/
theorem witness_CueJoinsTail :
    State.reset.hears = true ∧ State.reset.state = .config ∧ State.reset.cue.queue.length < 32 ∧
    (inState .armed).hears = true ∧ (inState .armed).state = .armed ∧ (inState .armed).cue.queue.length < 32 ∧
    ¬((inState .armed).state = .run ∧ isFree (inState .armed) = true ∧ (inState .armed).cue.queue = [] ∧
      (levelCue .localCue 0).gate = .localCue) ∧ validCue (inState .armed).synth.sets (levelCue .localCue 0) ∧
    ¬ comesLate (levelCue .localCue 0) (inState .armed) ∧ ¬ comesLate localPhase (inState .run) ∧
    beforeItsEnd.hears = true ∧ validCue beforeItsEnd.synth.sets localPhase ∧ beforeItsEnd.cue.queue.length < 32 ∧
    comesLate localPhase beforeItsEnd ∧ ¬ comesLate localPhase (settleSample beforeItsEnd) := by
  refine ⟨by decide, by decide, by decide, by decide, by decide, by decide, by decide, valid_level _, ?_, ?_, by decide,
    valid_phase, by decide, ⟨by decide, by decide, by decide, by decide⟩, ?_⟩
  · intro h; exact absurd h.1 (by decide)
  · intro h; exact absurd h.2.2.2 (by decide)
  · intro h; exact absurd h.2.2.2 (by decide +kernel)

/-- A dry station, one that a RUNNING cue of duration 0 leaves free, and one where the end of that cue is announced. -/
theorem witness_LocalCueStartsDryStation :
    (inState .run).hears = true ∧ (inState .run).state = .run ∧ (inState .run).cue.queue = [] ∧
    (inState .run).cue.active = none ∧ (levelCue .localCue 0).gate = .localCue ∧
    (let b := runningCue { levelCue .group 0 with kind := .flicker } 0
     (withActive b (inState .run)).cue.active = some b ∧ b.phase = .running ∧ b.cue.duration = some 0 ∧
     (withActive b (inState .run)).cue.queue = [] ∧ (withActive b (inState .run)).cue.handover ≠ .announced) ∧
    (let s := heldOpen .announced []
     s.hears = true ∧ s.state = .run ∧ s.cue.queue = [] ∧ s.cue.handover = .announced ∧
     s.cue.active = some (runningCue (levelCue .group 0) 1795) ∧ s.synth.runStart = false ∧ s.synth.flicker = none ∧
     s.synth.stop = false ∧ s.sw.pending = none ∧
     comingSteps { s with cue := { s.cue with queue := [levelCue .localCue 0] } } = none ∧
     localPhase.kind = .phase ∧ localPhase.duration ≠ some 0 ∧ localPhase.gate = .localCue ∧
     comingSteps { s with cue := { s.cue with queue := [localPhase] } } = some 900) ∧
    validCue (inState .run).synth.sets (levelCue .localCue 0) ∧
    validCue (heldOpen .announced []).synth.sets localPhase := by
  refine ⟨by decide, by decide, by decide, by decide, by decide, by decide, by decide +kernel, valid_level _, valid_phase⟩

/-- The fields of a record with one of them replaced. -/
def withField (c : Cue) (i : Nat) (v : Option Nat) : List (Option Nat) := c.raw.set i v

/-- Sixteen numbers, each within the bytes of its field. -/
def fits (raw : List (Option Nat)) : Bool :=
  decide (raw.length = 16) &&
    fieldIndices.all (fun i => match rawAt raw i with | none => true | some v => decide (v < 256 ^ fieldSize i))

theorem fieldsFit_of (raw : List (Option Nat)) (h : fits raw = true) : fieldsFit raw := by
  have h := Bool.and_eq_true_iff.mp h
  have hlen : raw.length = 16 := of_decide_eq_true h.1
  refine ⟨hlen, ?_⟩
  intro i v hv
  by_cases hi : i < 16
  · have hmem : ∀ k : Fin 16, k.val ∈ fieldIndices := by decide
    have := List.all_eq_true.mp h.2 i (hmem ⟨i, hi⟩)
    rw [hv] at this; exact of_decide_eq_true this
  · rw [rawAt, List.getD_eq_getElem?_getD, List.getElem?_eq_none (by omega)] at hv; cases hv

/-- All fields before the tolerance of a LEVEL cue pass. -/
theorem level_fields_pass (j : Nat) (h2 : 2 ≤ j) (h : j < 15) :
    fieldPasses State.reset.synth.sets .level (withField (levelCue .group 0) 15 (some 201)) j := by
  have all : ∀ k ∈ List.range' 2 13,
      fieldPasses State.reset.synth.sets .level (withField (levelCue .group 0) 15 (some 201)) k := by
    simp [List.range', fieldPasses, mustCarry, mustLack, mayHold, withField, Cue.raw, rawAt, levelCue, CueGate.code]
  exact all j (List.mem_range'_1.mpr ⟨h2, by omega⟩)

/-- A short payload, a wrong length, FULL, an empty set; a missing tag and kind, a tag of NONE, a kind of 8; a gate that is
missing, one out of range, an angle reference without its angle, a tolerance out of range behind fields that pass. -/
theorem witness_CueRefusalsOnlyReply :
    (inState .fault).hears = true ∧ (inState .fault).state = .fault ∧ (inState .recover).state = .recover ∧
    ([0#8] : List Byte).length < 2 ∧
    ([0#8, 1#8] : List Byte).length ≠ 2 + markedSize (be ([0#8, 1#8].take 2)) fieldIndices ∧
    32 ≤ (withQueue (List.replicate 32 endCueOf) State.reset).cue.queue.length ∧
    validCue State.reset.synth.sets { harmonicCue 7 with harmonicSet := some .none } ∧ (7 : Nat) ≤ 7 ∧
    (State.reset.synth.sets.getD 7 {}).entries = [] ∧
    fieldsFit (withField endCueOf 0 none) ∧ rawAt (withField endCueOf 0 none) 0 = none ∧
    fieldsFit (withField endCueOf 0 (some 65535)) ∧ fieldsFit (withField endCueOf 1 none) ∧
    fieldsFit (withField endCueOf 1 (some 8)) ∧ (7 : Nat) < 8 ∧
    rawAt (withField endCueOf 2 none) 1 = some CueKind.endRun.code ∧ mustCarry .endRun false 2 ∧
    ¬ mayHold State.reset.synth.sets .endRun none 2 1 ∧ mustLack .level false 4 ∧
    fieldsFit (withField (levelCue .group 0) 15 (some 201)) ∧
    (∀ j, 2 ≤ j → j < 15 →
      fieldPasses State.reset.synth.sets .level (withField (levelCue .group 0) 15 (some 201)) j) ∧
    ¬ mayHold State.reset.synth.sets .level (some 0) 15 201 := by
  refine ⟨by decide, by decide, by decide, by decide, by decide, by decide, ?_, by decide, by decide,
    fieldsFit_of _ (by decide), by decide, fieldsFit_of _ (by decide), fieldsFit_of _ (by decide),
    fieldsFit_of _ (by decide), by decide, by decide, trivial, ?_, rfl, fieldsFit_of _ (by decide), level_fields_pass, ?_⟩
  · simp [validCue, presentIff, harmonicCue, levelCue]
  · simp [mayHold]
  · simp [mayHold]

theorem witness_FlushDiscardsQueue :
    (inState .run).hears = true ∧ (after (.status []) (inState .run)).port.reply.isSome = true ∧ (inState .run).cue.queue = [] ∧ (withQueue [endCueOf] (inState .run)).cue.queue ≠ [] ∧
    isFree (withQueue [endCueOf] (inState .run)) = true ∧ (inState .run).group.pulse = false := by decide +kernel

theorem witness_JoinAndLeaveChangeState :
    State.reset.hears = true ∧ State.reset.state = .config ∧ (inState .run).hears = true ∧
    (inState .run).state ≠ .config ∧ (inState .run).state ≠ .enroll ∧ (inState .run).state ≠ .recover ∧
    (lockedIn .enroll).state = .enroll ∧ (inState .recover).state = .recover := by decide

/-- ARM's conditions, each with those before it passed. -/
theorem witness_ArmRefusalsInOrder :
    (inState .run).state ≠ .enroll ∧ (inState .enroll).pll.sync ≠ .locked ∧ (lockedIn .enroll).cue.queue = [] ∧
    (withQueue [levelCue .localCue 0] (lockedIn .enroll)).cue.queue = levelCue .localCue 0 :: [] ∧
    fltSeenHigh { lockedIn .enroll with lines := { fltHigh := false } } = false ∧
    fltSeenHigh (lockedIn .enroll) = true ∧
    (∃ n f, n ≠ State.reset.straps.number ∧
      ((entryOf2 { present := true, frame := some (frameOf2 .run none) } (lockedIn .enroll)).entry n).present = true ∧
      ((entryOf2 { present := true, frame := some (frameOf2 .run none) } (lockedIn .enroll)).entry n).frame = some f ∧
      f.state = .run) ∧
    (∃ n f, n ≠ State.reset.straps.number ∧
      ((entryOf2 { present := true, frame := some { frameOf2 .enroll none with groupSize := 2 } } (lockedIn .enroll)).entry
        n).present = true ∧
      ((entryOf2 { present := true, frame := some { frameOf2 .enroll none with groupSize := 2 } } (lockedIn .enroll)).entry
        n).frame = some f ∧ f.groupSize ≠ 1) := by
  refine ⟨by decide, by decide, by decide, by decide, by decide, by decide, ⟨2, frameOf2 .run none, ?_⟩,
    ⟨2, { frameOf2 .enroll none with groupSize := 2 }, ?_⟩⟩ <;> decide

theorem noPeers (s : State) (h : s.peer.table = State.reset.peer.table) (n : Fin 8) : (s.entry n).present = false := by
  unfold State.entry; rw [h]; revert n; decide

theorem witness_ArmAndDisarmMoveGate :
    (withQueue [endCueOf] (lockedIn .enroll)).hears = true ∧ (withQueue [endCueOf] (lockedIn .enroll)).state = .enroll ∧
    (withQueue [endCueOf] (lockedIn .enroll)).pll.sync = .locked ∧
    (withQueue [endCueOf] (lockedIn .enroll)).cue.queue = endCueOf :: [] ∧ endCueOf.gate = .group ∧
    fltSeenHigh (withQueue [endCueOf] (lockedIn .enroll)) = true ∧
    (∀ n f, n ≠ (0 : Fin 8) → ((withQueue [endCueOf] (lockedIn .enroll)).entry n).present = true →
      ((withQueue [endCueOf] (lockedIn .enroll)).entry n).frame = some f → f.state ≠ .run) ∧
    (inState .armed).state = .armed ∧ (inState .run).state ≠ .armed := by
  refine ⟨by decide, by decide, by decide, by decide, by decide, by decide, ?_, by decide, by decide⟩
  intro n f _ h; rw [noPeers (withQueue [endCueOf] (lockedIn .enroll)) rfl n] at h; cases h

/-- A station at the end of its gate pulse, with a GROUP head. -/
def atPulseEnd (st : StationState) : State :=
  { withQueue [endCueOf] (lockedIn st) with group := { pulse := true, drive := .released } }

theorem ready_alone_with (g : Group) (st : StationState) (h : st = .armed ∨ st = .run) :
    readyAtGate { atPulseEnd st with group := g } := by
  refine ⟨⟨⟨endCueOf, [], rfl, rfl⟩, ?_⟩, ⟨rfl, rfl⟩, ?_⟩
  · rcases h with rfl | rfl
    · exact Or.inl rfl
    · exact Or.inr ⟨rfl, fun a ha => by cases ha⟩
  · intro c cs hq
    refine ⟨fun _ n f _ _ hp => ?_, fun _ => ⟨rfl, ?_, fun n f _ hp => ?_⟩⟩
    · rw [noPeers { atPulseEnd st with group := g } rfl n] at hp; cases hp
    · exact Nat.le_add_right 1 _
    · rw [noPeers { atPulseEnd st with group := g } rfl n] at hp; cases hp

theorem ready_alone (st : StationState) (h : st = .armed ∨ st = .run) : readyAtGate (atPulseEnd st) :=
  ready_alone_with _ st h

/-- Readiness judged at a rise of TK_FLT: a ready station that held the line releases it with a new wait, one that waits goes
on, one in its gate pulse keeps everything; one at the gate that lacks peers holds the line, and one away from it has no tag
counts left. -/
theorem witness_gateJudged :
    (let s := { atPulseEnd .run with group := { drive := .heldLow, timer := 3 } }
     readyAtGate s ∧ (after .tkFltRise s).group = { drive := .released, timer := 0, timerOn := true }) ∧
    (let s := { atPulseEnd .armed with group := { drive := .released, timer := 3, timerOn := true } }
     readyAtGate s ∧ (after .tkFltRise s).group = s.group) ∧
    (let s := { atPulseEnd .run with group := { drive := .released, pulse := true } }
     readyAtGate s ∧ (after .tkFltRise s).group = s.group) ∧
    (let s := { atPulseEnd .armed with
       setup := { groupSize := 2 }, group := { drive := .released, timer := 3, timerOn := true, tagCounts := [1] } }
     standsAtGate s ∧ ¬ readyAtGate s ∧ (after .tkFltRise s).group = { drive := .heldLow, timer := 3, tagCounts := [1] }) ∧
    (let s : State := { inState .run with group := { drive := .heldLow, tagCounts := [1] } }
     ¬ standsAtGate s ∧ (after .tkFltRise s).group = { drive := .heldLow }) := by
  refine ⟨⟨ready_alone_with _ _ (Or.inr rfl), by decide⟩, ⟨ready_alone_with _ _ (Or.inl rfl), by decide⟩,
    ⟨ready_alone_with _ _ (Or.inr rfl), by decide⟩, ⟨(ready_alone .armed (Or.inl rfl)).1, fun h => ?_, by decide⟩, ?_, by decide⟩
  · exact absurd ((h.2.2 endCueOf [] rfl).2 rfl).2.1 (by decide)
  · rintro ⟨⟨c, cs, h, _⟩, _⟩; cases h

theorem witness_GateLineFollowsReadiness :
    (atPulseEnd .armed).state = .armed ∧ (atPulseEnd .run).state = .run ∧ (atPulseEnd .run).group.pulse = true ∧
    readyAtGate (atPulseEnd .armed) ∧ readyAtGate (atPulseEnd .run) ∧
    (let s : State := { atPulseEnd .run with lines := { fltHigh := false } }
     standsAtGate s ∧ ¬ readyAtGate s) ∧
    ¬ standsAtGate (inState .run) ∧ (inState .run).group.pulse = false := by
  refine ⟨rfl, rfl, rfl, ready_alone _ (Or.inl rfl), ready_alone _ (Or.inr rfl),
    ⟨(ready_alone .run (Or.inr rfl)).1, fun h => absurd h.2.1.1 (by decide)⟩, ?_, rfl⟩
  rintro ⟨⟨c, cs, h, _⟩, _⟩; cases h

/-- A station at the gate that waits on a high line. -/
def atOpening (st : StationState) : State :=
  { withQueue [freqCue] (lockedIn st) with group := { drive := .released, timerOn := true } }

theorem witness_GateOpeningOpensRun :
    (atOpening .armed).state = .armed ∧ (atOpening .armed).cue.active = none ∧
    (atOpening .armed).cue.queue = freqCue :: [] ∧ freqCue.gate = .group ∧
    (atOpening .armed).group.drive = .released ∧ (atOpening .armed).group.pulse = false ∧
    (atOpening .armed).lines.gateHigh = true ∧ (atOpening .armed).peer.table.length = 8 := by decide

/-- A head at once; a head that ends an open cue; one that takes the coming sample with it, a SAMPLE's, with a crossing of
the arc and without, or an EPOCH's; PHASE heads, with a phase step at it. -/
theorem witness_GateOpeningActivatesHead :
    (atOpening .run).state = .run ∧ (atOpening .run).cue.active = none ∧ (atOpening .run).cue.queue = freqCue :: [] ∧
    (atOpening .run).group.drive = .released ∧ (atOpening .run).group.pulse = false ∧
    (atOpening .run).lines.gateHigh = true ∧
    (let b := runningCue (levelCue .group 0) 0
     (withActive b (atOpening .run)).cue.active = some b ∧ b.phase = .running ∧ b.cue.duration = some 0) ∧
    (atOpening .run).cue.handover ≠ .announced ∧
    (let s := heldOpen .announced [freqCue]
     s.state = .run ∧ s.cue.handover = .announced ∧ s.cue.queue = freqCue :: [] ∧ s.group.drive = .released ∧
     s.group.pulse = false ∧ s.lines.gateHigh = true ∧ s.synth.runStart = false ∧ comingSteps s = none ∧
     (nextSample s.pll).isSome = true ∧ closesAt 5 5 0 s = 0 ∧ closesAt 1800 5 0 s = 1) ∧
    (let s := openAtEpoch .announced [freqCue]
     comingSteps s = none ∧ nextSample s.pll = none ∧ closesAt 0 5 0 s = 1) ∧
    (let c := { localPhase with gate := .group }
     let s := heldOpen .announced [c]
     s.cue.queue = c :: [] ∧ c.gate = .group ∧ c.kind = .phase ∧ c.duration ≠ some 0 ∧ s.synth.flicker = none ∧
     s.synth.stop = false ∧ s.sw.pending = none ∧ comingSteps s = some 900) := by decide +kernel

/-- A start angle that the coming sample reaches, and one that it does not. -/
theorem witness_GateOpeningActivatesHead_angles :
    angleReached { localPhase with startAngle := some 5, angleRef := some .system }
      { heldOpen .announced [] with pll := comingSample (heldOpen .announced []).pll } ∧
    ¬ angleReached { localPhase with startAngle := some 100, angleRef := some .system }
      { heldOpen .announced [] with pll := comingSample (heldOpen .announced []).pll } := by
  refine ⟨?_, ?_⟩
  · intro x h; cases h; exact ⟨0, by decide, by decide⟩
  · intro h
    obtain ⟨d, hd, he⟩ := h 100 rfl
    have hd : d < 5 := hd
    have he : (100 + d) % 3600 = 5 % 3600 := he
    omega

/-- A station with a GATE_TIMEOUT and a TAG_MISMATCH of station 7 still to be passed. -/
def gateCauses (st : StationState) : State := { inState st with group := { timeoutDue := true, tagDue := 128#8 } }

/-- Each cause where it applies, in FAULT and elsewhere. -/
theorem witness_CausesEnterFault :
    State.reset.hears = true ∧ State.reset.state = .config ∧ (inState .fault).state = .fault ∧
    (inState .recover).state ≠ .config ∧ (inState .recover).state ≠ .fault ∧
    (gateCauses .armed).state = .armed ∧ (gateCauses .armed).group.timeoutDue = true ∧
    (gateCauses .armed).group.tagDue.getLsbD 7 = true ∧ (gateCauses .fault).group.timeoutDue = true ∧
    (gateCauses .enroll).state ≠ .armed ∧ (gateCauses .enroll).state ≠ .fault ∧
    (inState .run).group.timeoutDue = false ∧ (inState .run).group.tagDue.getLsbD 7 = false ∧
    ({ inState .run with meas := { overloadDue := true } } : State).meas.overloadDue = true ∧
    ({ inState .fault with meas := { toleranceDue := true } } : State).meas.toleranceDue = true ∧
    (inState .run).meas.overloadDue = false ∧ (inState .run).meas.toleranceDue = false ∧
    (inState .enroll).state ≠ .armed ∧ (inState .enroll).state ≠ .run ∧
    ({ inState .enroll with peer := { tx := some (frameOf2 .enroll none) } } : State).peer.tx =
      some (frameOf2 .enroll none) ∧ (inState .enroll).state ≠ .config := by decide

theorem witness_FaultEpisodeEnds :
    (let s : State := { inState .fault with fault := { cause := some .overload, fltLow := true } }
     s.hears = true ∧ s.state = .fault ∧ s.fault.stopComplete = true ∧ s.fault.cause = some .overload) ∧
    ¬((inState .run).state = .fault ∧ (inState .run).fault.stopComplete = true) ∧
    (inState .recover).state = .recover ∧ (inState .recover).fault.fltLow = false ∧
    ({ inState .recover with fault := { fltLow := true } } : State).fault.fltLow = true ∧
    (inState .config).state = .config ∧ (inState .enroll).state = .enroll ∧ (inState .fault).state = .fault ∧
    (inState .armed).state = .armed ∧ (inState .run).state = .run ∧
    (let s : State := { inState .fault with fault := { cause := some .overload, epochs := 2 } }
     s.fault.epochs = 2 ∧ s.fault.offered = false) ∧
    ¬((inState .fault).state = .fault ∧ (inState .fault).fault.epochs = 2 ∧ (inState .fault).fault.offered = false) := by
  decide

theorem witness_RecordsAreTakenAndLossCleared :
    State.reset.hears = true ∧ (1 : Nat) ≤ 4 ∧ ([] : List Byte).length ≠ 1 ∧ (0#8 : Byte).toNat < 1 ∧
    4 < (5#8 : Byte).toNat ∧ State.reset.report.lost = false ∧
    (let q : ReportQueue := { records := List.replicate 24 (.loss 1), lost := true, lostCount := 1 }
     q.lost = true ∧ 24 ≤ q.records.length) ∧
    (let q : ReportQueue := { records := List.replicate 23 (.loss 1), lost := true, lostCount := 255 }
     q.lost = true ∧ q.records.length < 24) := by decide

theorem witness_AlertSetReplacesSettings :
    State.reset.hears = true ∧ (List.replicate 14 3).length = 14 ∧ (∀ q ∈ List.replicate 14 3, q ≤ 3) ∧ (3 : Nat) ≤ 3 ∧
    ([] : List Byte).length ≠ 17 ∧ (List.replicate 17 255#8).length = 17 ∧ 16383 < wordAt (List.replicate 17 255#8) 0 ∧
    (let p : List Byte := List.replicate 15 0#8 ++ [4#8, 4#8]
     p.length = 17 ∧ wordAt p 0 ≤ 16383 ∧ (∀ j < 14, 1 ≤ j → byteAt p (j + 1) ≤ 3) ∧ 3 < byteAt p (14 + 1)) ∧
    (let p : List Byte := List.replicate 16 3#8 ++ [4#8]
     p.length = 17 ∧ wordAt p 0 ≤ 16383 ∧ (∀ j < 15, 1 ≤ j → byteAt p (j + 1) ≤ 3) ∧ 3 < byteAt p 16) := by decide

/-- Two causes of one priority, of which the lower number is selected; FRAME_CUT of a reply cut at the rise; no cause; a
stack of one. -/
theorem witness_AlertNextAndDone :
    (let s : State := { State.reset with alert := { pending := 6#14, enable := 6#14 } }
     s.hears = true ∧ s.alert.qualifies .tolMiss = true ∧
     (risen s).alert = s.alert ∧
     (∀ d ∈ allCauses, s.alert.qualifies d = true → s.alert.priority d < s.alert.priority .tolMiss ∨
       (s.alert.priority d = s.alert.priority .tolMiss ∧ AlertCause.tolMiss.num ≤ d.num))) ∧
    (let s := { after (.status []) State.reset with alert := { enable := 8192#14 } }
     s.hears = true ∧ (risen s).alert.qualifies .frameCut = true ∧ s.alert.qualifies .frameCut = false) ∧
    (∀ d ∈ allCauses, (risen State.reset).alert.qualifies d = false) ∧
    ({ State.reset with alert := { stack := [{ cause := .fault, priority := 3 }] } } : State).alert.stack =
      { cause := .fault, priority := 3 } :: [] ∧ State.reset.alert.stack = [] := by decide +kernel

/-- A cause that is served and pending again, and one that is pending and disabled. -/
theorem witness_AlertnFollowsQualification :
    (let a : AlertUnit := { pending := 1#14, enable := 1#14, stack := [{ cause := .fault, priority := 3 }] }
     { cause := AlertCause.fault, priority := 3 } ∈ a.stack ∧ descending a.stack = true ∧
     a.prio.getD AlertCause.fault.num 0 = 3) ∧
    (let s : State := { State.reset with alert := { pending := 4#14 } }
     s.hears = true ∧ isFlagged AlertCause.reportLoss.num s.alert ∧ (risen s).alert.qualifies .reportLoss = false) := by
  unfold isFlagged; decide

theorem valid_example : validEntries exampleSet := by
  refine ⟨by decide, by decide, ?_⟩
  intro e h; revert e; decide

/-- A set named by a queued and by the active cue; each item of the second entry out of range; a repeated order. -/
theorem witness_HsetReplacesSet :
    State.reset.hears = true ∧ State.reset.state = .config ∧ (7 : Nat) ≤ 7 ∧ validEntries exampleSet ∧
    (∀ c ∈ State.reset.cue.queue, c.harmonicSet ≠ some (.set 7)) ∧
    (∀ a, State.reset.cue.active = some a → a.cue.harmonicSet ≠ some (.set 7)) ∧
    (∃ c ∈ (withQueue [harmonicCue 7] State.reset).cue.queue, c.harmonicSet = some (.set 7)) ∧
    (∃ a, (withActive (runningCue (harmonicCue 7) 0) State.reset).cue.active = some a ∧
      a.cue.harmonicSet = some (.set 7)) ∧
    (inState .armed).state ≠ .config ∧ (inState .armed).state ≠ .enroll ∧
    ([] : List Byte).length < 2 ∧ 7 < byteAt [8#8, 0#8] 0 ∧ 12 < byteAt [7#8, 13#8] 1 ∧
    ([7#8, 12#8] : List Byte).length ≠ 2 + 5 * byteAt [7#8, 12#8] 1 ∧
    (let e : HarmonicEntry := { order := 3, amplitude := 3001, phase := 0 }
     (∀ d ∈ exampleSet ++ [e], entryFits d) ∧ (exampleSet ++ [e])[2]? = some e ∧
     (∀ d ∈ (exampleSet ++ [e]).take 2, entryInRange d) ∧ 3000 < e.amplitude) ∧
    (let es := exampleSet ++ exampleSet
     (∀ d ∈ es, entryInRange d) ∧ ((es.take 2).map HarmonicEntry.order).Nodup ∧
     3 ∈ (es.take 2).map HarmonicEntry.order) := by
  refine ⟨by decide, by decide, by decide, valid_example, by decide, ?_, ⟨harmonicCue 7, by decide, rfl⟩,
    ⟨_, rfl, rfl⟩, by decide, by decide, by decide, by decide, by decide, by decide, ?_, ?_⟩
  · intro a h; cases h
  · simp [exampleSet, entryFits, entryInRange]
  · simp [exampleSet, entryInRange]

theorem witness_RmsFactorIsRoundedRoot : validEntries exampleSet ∧ validEntries [] :=
  ⟨valid_example, by decide, by decide, by intro e h; cases h⟩

theorem valid_frame : validFrame (frameOf2 .fault (some 65534)) := by
  simp [validFrame, frameOf2]

theorem witness_PeerFrameRoundTrip : validFrame (frameOf2 .fault (some 65534)) := valid_frame

theorem witness_PeersOnlyReplies :
    State.reset.hears = true ∧ ({ missed := 3, shareRun := 10 } : PeerEntry).missed ≤ 3 ∧
    ({ missed := 3, shareRun := 10 } : PeerEntry).shareRun ≤ 10 ∧
    ({ frame := some (frameOf2 .run none) } : PeerEntry).frame = some (frameOf2 .run none) := by decide

theorem witness_TransmitterAndReceiver :
    ({ State.reset with peer := { tx := some (frameOf2 .run none) } } : State).peer.tx = some (frameOf2 .run none) ∧
    State.reset.peer.tx = none ∧ (listening State.reset).peer.rx = .listening ∧ readFrame [] = none ∧
    ({ State.reset with peer := { rx := .waitIdle } } : State).peer.rx = .waitIdle ∧
    readFrame (List.replicate 16 1#8) = none ∧
    (readFrame { frameOf2 .run none with number := 0 }.bytes).map PeerFrame.number = some State.reset.straps.number ∧
    readFrame (frameOf2 .run none).bytes = some (frameOf2 .run none) ∧
    ([] : List Byte).length ≠ 16 ∧ State.reset.peer.rx = .stopped := by decide +kernel

/-- An arrival in FAULT with GROUP_FAULT whose frame names the origin. -/
theorem witness_AcceptedFrameIsFiled :
    (listening State.reset).peer.rx = .listening ∧ validFrame (frameOf2 .fault (some 65534)) ∧
    (frameOf2 .fault none).number ≠ State.reset.straps.number ∧ State.reset.peer.table.length = 8 ∧
    ((State.reset.entry 2).present = true → (State.reset.entry 2).missed ≤ 2) ∧
    (let s : State := { listening (inState .fault) with fault := { cause := some .groupFault } }
     s.state = .fault ∧ s.fault.cause = some .groupFault ∧ s.fault.offered = false ∧
     (frameOf2 .fault none).state = .fault ∧ (frameOf2 .fault none).cause ≠ none ∧
     (frameOf2 .fault none).cause ≠ some .groupFault) ∧
    atGate (listening (atOpening .armed)) = true ∧ (listening (atOpening .armed)).peer.rx = .listening ∧
    tagCountAfter (listening (atOpening .armed)) (frameOf2 .armed (some 7)) = 1 ∧
    atGate (listening (inState .armed)) = false :=
  ⟨by decide, valid_frame, by decide, by decide, by decide, by decide, by decide, by decide, by decide, by decide⟩

theorem witness_SilentPeerBecomesAbsent :
    (let s := entryOf2 { present := true, missed := 3, member := true } (inState .run)
     (2 : Fin 8) ≠ s.straps.number ∧ (s.entry 2).present = true ∧ 3 ≤ (s.entry 2).missed ∧
     s.state = .run ∧ (s.entry 2).member = true) ∧
    (let s := entryOf2 { present := true, missed := 3 } (inState .run)
     (s.entry 2).present = true ∧ 3 ≤ (s.entry 2).missed ∧ ¬(s.state = .run ∧ (s.entry 2).member = true)) ∧
    (let s := entryOf2 { present := true, missed := 3, member := true } (inState .fault)
     (s.entry 2).present = true ∧ 3 ≤ (s.entry 2).missed ∧ s.state = .fault ∧ (s.entry 2).member = true) ∧
    (let s := { entryOf2 { present := true, missed := 3 } (inState .armed) with straps := { number := 2 } }
     (2 : Fin 8) = s.straps.number ∧ (s.entry 2).present = true ∧ 3 ≤ (s.entry 2).missed) ∧
    (State.reset.entry 2).present = false := by decide

/-- A LOCKED or SEEKING station with one noted fall. -/
def withFall (sync : SyncState) (w : Nat) (st : StationState) : State :=
  { inState st with pll := { sync := sync, falls := [{ whole := w, num := 0, den := 1 }] } }

theorem quiet_settles : nothingDue (withFall .locked 3580 .run) ∧ nothingDue (withFall .locked 3580 .armed) ∧
    nothingDue (withFall .locked 3580 .enroll) ∧ nothingDue (withFall .seeking 3595 .enroll) ∧
    nothingDue (lockedIn .run) ∧ nothingDue (lockedIn .armed) ∧ nothingDue (inState .enroll) ∧
    nothingDue (inState .fault) ∧ nothingDue (withFall .locked 0 .armed) := by
  unfold nothingDue; decide +kernel

/-- The station with one result of each channel in the half-cycle in progress. -/
def measuring (s : State) : State := { s with meas := { s.meas with v := { produced := 1 }, i := { produced := 1 } } }

/-- Station 2 on the own phase, present over the share limit, with its currents. -/
def besidePartner : State :=
  entryOf2 { present := true, shareRun := 9, frame := some (frameOf2 .run none) }
    { lockedIn .run with
      setup := { shareLimit := 100 }
      meas := {
        heldI := some 900, v := { produced := 1, settled := 1 }, i := { produced := 1, settled := 1, sumSq := 5213 ^ 2 } } }

theorem witness_ShareImbalanceReportedOnce :
    (besidePartner.state = .run ∧ settle besidePartner = besidePartner ∧ besidePartner.setup.shareLimit ≠ 0 ∧
      besidePartner.peer.table.length = 8 ∧ (2 : Fin 8) ≠ besidePartner.straps.number ∧
      (besidePartner.entry 2).present = true ∧ (besidePartner.entry 2).frame = some (frameOf2 .run none) ∧
      (frameOf2 .run none).phase = besidePartner.straps.phase ∧ besidePartner.straps.phase ≠ .any ∧
      (after (.epoch .falling) besidePartner).state = .run ∧
      (after (.epoch .falling) besidePartner).meas.heldI = some 900 ∧ (frameOf2 .run none).iRms = some 500 ∧
      100 < max 900 500 - min 900 500 ∧ (after (.epoch .low) besidePartner).state ≠ .run) ∧
    (let s := entryOf2 { present := true, shareRun := 10, shared := some (900, 500) } (inState .run)
     s.state = .run ∧ (s.entry 2).shareRun = 10 ∧ (s.entry 2).shareReported = false ∧
     (s.entry 2).shared = some (900, 500)) ∧ (State.reset.entry 2).shareRun ≠ 10 := by decide +kernel

/-- A FREQ cue past its activation sample in RUN, with its frequency pending. -/
def freqWaiting (duration : Nat) : State :=
  withActive (waitingCue { freqCue with duration := some duration })
    { measuring (lockedIn .run) with pll := { sync := .locked, pendingFreq := some 7000 } }

/-- The first sample of a run, which is the one of an epoch. -/
def firstAtEpoch : State :=
  withActive (freshActive (levelCue .group 0) false 0) { measuring (lockedIn .run) with synth := { runStart := true } }

/-- A PHASE cue that takes its activation sample at the epoch's sample. -/
def phaseAtEpoch : State := withActive (freshActive localPhase false 0) (measuring (lockedIn .run))

/-- Behind an opening that has taken the epoch's sample, with a MEAS_LOST of its close held back or not. -/
def takenAtEpoch (lost : Bool) : State :=
  after .gateOpening { openAtEpoch .announced [freqCue] with
    meas := { v := { produced := if lost then 0 else 1 }, i := { produced := 1 } } }

/-- Without a FREQ cue; the first sample of a run; with a FREQ cue, whose epoch makes no fault entry or does; with a sample
that is taken; with a phase step at it, with a SYNC_LOST behind it and without. -/
theorem witness_EpochCounts :
    (lockedIn .run).joined = true ∧ nothingDue (lockedIn .run) ∧ (lockedIn .run).peer.table.length = 8 ∧
    (inState .fault).state = .fault ∧ nothingDue (inState .fault) ∧ freqWaits (lockedIn .run) = false ∧
    (settle firstAtEpoch = firstAtEpoch ∧ freqWaits firstAtEpoch = false ∧ firstAtEpoch.synth.runStart = true ∧
      firstAtEpoch.cue.active.all (fun a => decide (a.phase = .pendingAngle) && a.awaiting) = true ∧
      firstAtEpoch.sw.pending = none ∧ (after (.epoch .falling) firstAtEpoch).state = .run) ∧
    (settle (freqWaiting 0) = freqWaiting 0 ∧ (freqWaiting 0).pll.pendingFreq = some 7000 ∧
      (freqWaiting 0).synth.runStart = false ∧ (freqWaiting 0).sw.pending = none ∧
      (after (.epoch .falling) (freqWaiting 0)).state = .run ∧ (after (.epoch .low) (freqWaiting 0)).state ≠ .run) ∧
    settle (freqWaiting 5) = freqWaiting 5 ∧ (after (.epoch .falling) (freqWaiting 5)).state = .run ∧
    [lockedIn .run, inState .fault, firstAtEpoch, freqWaiting 0, freqWaiting 5, takenAtEpoch false, phaseAtEpoch].all lawful
      = true ∧
    (epochSteps .falling (lockedIn .run) = none ∧ epochSteps .falling firstAtEpoch = none ∧
      epochSteps .falling (freqWaiting 0) = none ∧ epochSteps .falling (freqWaiting 5) = none) ∧
    ((takenAtEpoch false).pll.taken = .epoch ∧ (takenAtEpoch false).pll.acc = {} ∧ (takenAtEpoch false).pll.adv = 0 ∧
      (takenAtEpoch false).meas.lossDue = false ∧ (after (.epoch .falling) (takenAtEpoch false)).state = .run ∧
      (takenAtEpoch true).pll.taken = .epoch ∧ (takenAtEpoch true).state = .run ∧
      (takenAtEpoch true).meas.lossDue = true ∧
      (after (.abort []) (takenAtEpoch true)).state = .fault ∧ (after (.abort []) (takenAtEpoch true)).meas.lossDue = true ∧
      (after .gateOpening (heldOpen .announced [freqCue])).pll.taken = .sample) ∧
    (settle phaseAtEpoch = phaseAtEpoch ∧ phaseAtEpoch.cue.active = some (freshActive localPhase false 0) ∧
      localPhase.duration ≠ some 0 ∧ phaseAtEpoch.synth.flicker = none ∧ phaseAtEpoch.synth.stop = false ∧
      phaseAtEpoch.sw.pending = none ∧ epochSteps .falling phaseAtEpoch = some 900 ∧
      (after (.epoch .falling) phaseAtEpoch).state = .run ∧ epochSteps .low phaseAtEpoch = some 900) :=
  ⟨by decide, quiet_settles.2.2.2.2.1, by decide, by decide, quiet_settles.2.2.2.2.2.2.2.1, by decide, by decide +kernel,
    by decide +kernel, by decide +kernel, by decide +kernel, by decide, by decide +kernel, by decide +kernel,
    by decide +kernel⟩

/-- A station whose number and angle put the own slot at the coming sample or on the epoch's arc, and one that is due to end
its cue, which settles. -/
def atSlot (n : Fin 8) (w : Nat) (s : State) : State :=
  { s with straps := { number := n }, pll := { s.pll with acc := { whole := w } } }

/-- Station 0 at its epoch, LOCKED and SEEKING; station 7, whose slot lies on the arc of an epoch that a snap has left far
behind, and one whose slot does not; a FREQ cue at station 0; the rest of a taken epoch at station 0. -/
theorem witness_EpochCounts_sends :
    ((lockedIn .run).straps.number = 0 ∧ (lockedIn .run).peer.barred = false ∧
      (after (.epoch .falling) (lockedIn .run)).peer.tx.isSome = true ∧
      (after (.epoch .high) (inState .enroll)).peer.tx = none) ∧
    (settle (atSlot 7 3000 (measuring (lockedIn .run))) = atSlot 7 3000 (measuring (lockedIn .run)) ∧
      lawful (atSlot 7 3000 (measuring (lockedIn .run))) = true ∧ reached (7 * 450) 0 (3600 - 3000) = true ∧
      (after (.epoch .falling) (atSlot 7 3000 (measuring (lockedIn .run)))).state = .run ∧
      (after (.epoch .falling) (atSlot 7 3000 (measuring (lockedIn .run)))).peer.rx = .muted ∧
      (after (.epoch .falling) (atSlot 7 3500 (measuring (lockedIn .run)))).peer.tx = none ∧
      (after (.epoch .low) (atSlot 7 3000 (measuring (lockedIn .run)))).fault.cause = some .syncLost ∧
      (after (.epoch .low) (atSlot 7 1750 (lockedIn .run))).fault.cause = some .measLost) ∧
    ((freqWaiting 5).straps.number = 0 ∧ (after (.epoch .falling) (freqWaiting 5)).peer.tx.isSome = true ∧
      (after (.epoch .low) (freqWaiting 5)).peer.tx.isSome = true) ∧
    ((takenAtEpoch false).straps.number = 0 ∧ (after (.epoch .falling) (takenAtEpoch false)).peer.tx.isSome = true) := by
  decide +kernel

/-- A cue of the last sample is still to end: SAMPLE and EPOCH end it first, and nothing is due behind it. -/
theorem witness_composition :
    (let s := { beforeItsEnd with pll := { sync := .locked } }
     s.joined = true ∧ s.pll.taken = .none ∧ (nextSample s.pll).isSome = true ∧ settle s ≠ s ∧
     settle (settle s) = settle s ∧ (after .sample s).cue.ended = 1 ∧ (after (.epoch .falling) s).cue.ended = 1) := by
  decide +kernel

/-- The statements of the judgement, of an epoch whose sample is taken. -/
theorem witness_epochReady :
    epochReady (withFall .locked 3580 .run) ∧ epochReady (takenAtEpoch false) ∧ (takenAtEpoch false).pll.sync = .locked ∧
    StopLaw (takenAtEpoch false) ∧ (takenAtEpoch false).state = .run :=
  ⟨Or.inl ⟨by decide, quiet_settles.1⟩, Or.inr (by decide +kernel), by decide +kernel, by decide +kernel, by decide +kernel⟩

/-- Falls with and without a fraction, at the epoch's own instant, and none. -/
theorem witness_LockedEpochJudgement :
    (let s := measuring (withFall .locked 3580 .run)
     s.state = .run ∧ settle s = s ∧ s.pll.sync = .locked ∧ (s.meas.v.produced ≠ 0 ∧ s.meas.i.produced ≠ 0) ∧
     SynLine.high ≠ .falling ∧ s.pll.falls.getLast? = some { whole := 3580, num := 0, den := 1 } ∧ StopLaw s) ∧
    (let s := measuring (lockedIn .run)
     settle s = s ∧ StopLaw s ∧ s.pll.falls = [] ∧ (s.meas.v.produced ≠ 0 ∧ s.meas.i.produced ≠ 0)) ∧
    (lockedIn .armed).pll.falls = [] ∧ nothingDue (lockedIn .armed) ∧
    (withFall .locked 0 .armed).pll.falls.getLast? = some {} ∧ nothingDue (withFall .locked 0 .armed) ∧
    wholeLag { whole := 0, num := 1, den := 3 } = 3599 ∧
    (let s := withFall .locked 3580 .enroll
     s.state = .enroll ∧ nothingDue s ∧ s.pll.falls.getLast? = some { whole := 3580 }) ∧
    (inState .fault).state = .fault ∧ (inState .recover).state = .recover ∧
    StopLaw (lockedIn .armed) ∧ StopLaw (withFall .locked 0 .armed) ∧ StopLaw (withFall .locked 3580 .enroll) :=
  ⟨by decide +kernel, by decide +kernel, by decide, quiet_settles.2.2.2.2.2.1, by decide, quiet_settles.2.2.2.2.2.2.2.2,
    by decide, ⟨by decide, quiet_settles.2.2.1, by decide⟩, by decide, by decide, by decide, by decide, by decide⟩

/-- A small lag, the count that reaches 4 with it, no fall, and the count that reaches 2 with none. -/
theorem witness_SeekingEpochCountsTowardsLock :
    (let s := withFall .seeking 3595 .enroll
     s.joined = true ∧ nothingDue s ∧ s.pll.sync = .seeking ∧ SynLine.low ≠ .falling ∧
     s.pll.falls.getLast? = some { whole := 3595, num := 0, den := 1 }) ∧
    (let s : State := { inState .enroll with pll := { lockCount := 3, silentCount := 1 } }
     settle s = s ∧ (after (.epoch .falling) s).pll.lockCount = 4 ∧ (after (.epoch .high) s).pll.silentCount = 2) ∧
    (inState .enroll).pll.falls = [] ∧ nothingDue (inState .enroll) :=
  ⟨⟨by decide, quiet_settles.2.2.2.1, by decide, by decide, by decide⟩, by decide +kernel, by decide,
    quiet_settles.2.2.2.2.2.2.1⟩

theorem witness_LockAndFounderBeginPull :
    (let s : State := { inState .enroll with pll := { lockCount := 4 } }
     s.joined = true ∧ s.pll.sync = .seeking ∧ s.pll.lockCount = 4) ∧
    (let s : State := { inState .run with pll := { silentCount := 2 } }
     s.joined = true ∧ s.pll.sync = .seeking ∧ s.pll.silentCount = 2) ∧
    State.reset.state = .config ∧ (inState .enroll).pll.lockCount ≠ 4 ∧ (inState .enroll).pll.silentCount ≠ 2 ∧
    (let s : State := { inState .enroll with pll := { lockCount := 4, atEpoch := true } }
     s.straps.number = 0 ∧ s.pll.atEpoch = true ∧ s.peer.barred = false ∧ (after .lock s).peer.rx = .muted) := by
  decide

/-- The pull before and at its tenth unit; a fall away from an epoch, at the instant of one whose judgement left 10, at 0
behind that one, and at 0 behind a snap to 3597. -/
theorem witness_SyncLineIsWatched :
    (inState .enroll).joined = true ∧ (inState .enroll).pll.atEpoch = false ∧ State.reset.state = .config ∧
    0 + (0 / 5 * 5 + 5 - 0) < 10 ∧ 10 ≤ 5 + (5 / 5 * 5 + 5 - 5) ∧
    (let s : State := { inState .enroll with pll := { atEpoch := true, acc := { whole := 10 } } }
     s.pll.atEpoch = true ∧ (20 * 1 + 0) * s.pll.acc.den = (s.pll.acc.whole * s.pll.acc.den + s.pll.acc.num) * 2 ∧
     (11 * 1 + 0) * s.pll.acc.den ≠ (s.pll.acc.whole * s.pll.acc.den + s.pll.acc.num) * 1 ∧
     s.pll.acc.whole / 5 * 5 + 5 < 3600) ∧ ¬(3597 / 5 * 5 + 5 < 3600) := by decide

/-- A LOCKED station 1 in ENROLL, one sample before its slot. -/
def beforeSlot : State :=
  { lockedIn .enroll with straps := { number := 1 }, pll := { sync := .locked, acc := { whole := 445 } } }

theorem witness_SampleMovesAngle :
    beforeSlot.joined = true ∧ quiet beforeSlot ∧ nothingDue beforeSlot ∧ outputOn beforeSlot = false ∧
    (∃ p, nextSample beforeSlot.pll = some p ∧ p.sysAngle = 450 ∧ p.arc = 5) ∧ beforeSlot.pll.taken = .none ∧
    beforeSlot.straps.number ≠ 0 ∧ onArc 450 450 5 ∧ beforeSlot.peer.barred = false ∧
    3590 / 5 * 5 + 5 < 3600 ∧ 3600 ≤ 3595 / 5 * 5 + 5 ∧ State.reset.state = .config := by
  refine ⟨by decide, by unfold quiet; decide, by unfold nothingDue; decide +kernel, by decide, ⟨_, rfl, by decide, by decide⟩,
    by decide, by decide, ⟨0, by decide, by decide⟩, by decide, by decide, by decide, by decide⟩

/-- A PHASE cue that starts at the last sample. -/
def phaseAtStart : ActiveCue := waitingCue { levelCue .group 1 with kind := .phase, phaseDelta := some (-900) }

/-- The sample that follows a state in which nothing is due. -/
def nextOf (s : State) : PhaseLock := (nextSample s.pll).getD {}

/-- The next sample comes with nothing due, and makes these phase steps. -/
def comesWith (o : Option Nat) (s : State) : Bool :=
  decide (settle s = s) && (nextSample s.pll).isSome && decide (sampleSteps (nextOf s) s = o)

/-- A running RAMP on its way and complete, a pending closing, and the first sample of a run. -/
theorem witness_SampleFormsWord :
    (let s := { withActive { runningCue rampCue 100 with rampFrom := 400 } (lockedIn .run) with
       sw := { pending := some ⟨.sw0, 2⟩ } }
     s.state = .run ∧ comesWith none s = true ∧ s.pll.taken = .none ∧ s.synth.runStart = false ∧
     (after .sample s).state = .run) ∧
    comesWith none (withActive { runningCue rampCue 5400 with rampDone := true } (lockedIn .run)) = true ∧
    (let s := withActive (freshActive (levelCue .group 0) false 0) { lockedIn .run with synth := { runStart := true } }
     s.state = .run ∧ comesWith none s = true ∧ s.synth.runStart = true ∧ (after .sample s).state = .run ∧
     s.cue.active.all (fun a => decide (a.phase = .pendingAngle) && a.awaiting) = true) := by
  decide +kernel

/-- The row of a taken sample, with a MEAS_LOST held back and without; a PHASE cue at its activation sample, a stop under
way in FAULT. -/
theorem witness_SampleFormsWord_steps :
    (let s := after .gateOpening (heldOpen .announced [freqCue])
     s.joined = true ∧ s.pll.taken = .sample ∧ s.meas.lossDue = false) ∧
    (let s := after .gateOpening { heldOpen .announced [freqCue] with pll := { sync := .locked, acc := { whole := 1795 } } }
     s.pll.taken = .sample ∧ s.meas.lossDue = true ∧ s.state = .run) ∧
    (comesWith (some 900) phaseAtEpoch = true ∧ phaseAtEpoch.state = .run ∧
      (after .sample phaseAtEpoch).state = .run) ∧
    (let s : State := { lockedIn .fault with synth := { stop := true }, fault := { stopComplete := false } }
     s.state = .fault ∧ s.fault.stopComplete = false ∧ s.synth.runStart = false ∧ comesWith none s = true) := by
  decide +kernel

/-- A station in RUN at its own slot, not barred and barred, in FAULT with the stop under way, and with a phase step. -/
theorem witness_SampleFormsWord_sends :
    (let s := atSlot 1 445 (lockedIn .run)
     comesWith none s = true ∧ (nextOf s).sysAngle = 450 ∧ reached 450 450 (nextOf s).arc = true ∧
     s.peer.barred = false ∧ (after .sample s).state = .run ∧ (after .sample s).peer.rx = .muted ∧
     (after .sample { s with peer := { barred := true } }).peer.tx = none) ∧
    (let s : State := atSlot 1 445 { lockedIn .fault with synth := { stop := true }, fault := { stopComplete := false } }
     comesWith none s = true ∧ (after .sample s).peer.rx = .muted) ∧
    (let s := atSlot 1 445 phaseAtEpoch
     comesWith (some 900) s = true ∧ (after .sample s).state = .run ∧ (after .sample s).peer.rx = .muted) := by
  decide +kernel

/-- No cue, a RUNNING cue, a cue before its activation sample, and PHASE cues of a delta and of none at their start. -/
theorem witness_SampleFormsWord_stepsAhead :
    (phaseAtStart.phase = .pendingAngle ∧ phaseAtStart.awaiting = false ∧ phaseAtStart.cue.kind = .phase ∧
      phaseAtStart.cue.startAngle = none ∧ phaseAtStart.cue.duration ≠ some 0 ∧
      stepsAhead false (withActive phaseAtStart (lockedIn .run)) = some 2700) ∧
    stepsAhead false (withActive (waitingCue { levelCue .group 1 with kind := .phase, phaseDelta := some 0 })
      (lockedIn .run)) = none ∧
    (lockedIn .run).cue.active = none ∧
    (freshActive (levelCue .group 0) false 0).awaiting = true ∧
    completionDue (withActive (runningCue rampCue 100) (lockedIn .run)) = false := by decide +kernel

/-- A magnitude at the scale's end, one below a level and one above it; the nominal peak is a tie. -/
theorem witness_OutputWordScale :
    (-5 : Int).natAbs ≤ clipValue ∧ clipValue ≤ clipValue ∧ (5 : Nat) < (-6 : Int).natAbs ∧
    2 * (1000 * Config.valueOne * 524287) % (2 * clipValue) = clipValue := by decide

theorem witness_CueStartMakesRequests :
    (let s := withActive (waitingCue (levelCue .localCue 3)) (inState .run)
     s.cue.active = some (waitingCue (levelCue .localCue 3)) ∧ (waitingCue (levelCue .localCue 3)).phase = .pendingAngle ∧
     (waitingCue (levelCue .localCue 3)).awaiting = false ∧ (levelCue .localCue 3).duration ≠ some 0 ∧ closeDue s = false) ∧
    startReached (waitingCue (levelCue .localCue 3)) (inState .run) ∧
    ¬ startReached (waitingCue freqCue) (inState .run) ∧
    startReached (waitingCue { rampCue with startAngle := some 0, angleRef := some .own })
      { inState .run with pll := { arc := 5 } } ∧
    (∃ a, (withActive (runningCue rampCue 0) (inState .run)).cue.active = some a ∧ a.phase = .running) ∧
    (inState .run).cue.active = none := by
  refine ⟨by decide, ⟨by decide, ?_⟩, ?_, ⟨by decide, ?_⟩, ⟨_, rfl, rfl⟩, rfl⟩
  · intro x h; cases h
  · intro h; exact h.1 rfl
  · intro x h; cases h; exact ⟨0, by decide, by decide⟩

/-- A cue of duration 0 with an empty queue, a GROUP head and a LOCAL head. -/
theorem witness_DurationZeroStartFreesStation :
    (let a := waitingCue (levelCue .localCue 0)
     let s := withActive a (inState .run)
     s.state = .run ∧ s.cue.active = some a ∧ a.phase = .pendingAngle ∧ a.awaiting = false ∧
     a.cue.duration = some 0 ∧ closeDue s = false ∧ s.cue.queue = [] ∧
     (withQueue [endCueOf] s).cue.queue = endCueOf :: [] ∧ endCueOf.gate = .group ∧
     (withQueue [rampCue] s).cue.queue = rampCue :: [] ∧ rampCue.gate = .localCue) ∧
    startReached (waitingCue (levelCue .localCue 0)) (inState .run) := by
  refine ⟨by decide, by decide, ?_⟩
  intro x h; cases h

/-- A LOCAL GAP whose start angle the present sample does not reach. -/
def laterGap : Cue := { gapCue .localCue .highZ with startAngle := some 100, angleRef := some .system }

/-- A completing GAP before nothing, before a GROUP head, before a LOCAL GAP that starts there or later, and before a LOCAL
cue of another kind; a cue of duration 0, announced or not. -/
theorem witness_CompletionEndsCue :
    (let a := runningCue (gapCue .localCue .lowZ) 3600
     let s := withActive a (inState .run)
     s.state = .run ∧ s.cue.active = some a ∧ a.phase = .running ∧ a.cue.duration = some 2 ∧ (2 : Nat) ≠ 0 ∧
     2 * 1800 ≤ a.advance ∧ closeDue s = false ∧ a.cue.kind = .gap ∧ a.cue.switchMode = some .lowZ ∧ s.cue.queue = [] ∧
     (withQueue [endCueOf] s).cue.queue = endCueOf :: [] ∧ endCueOf.gate = .group ∧
     (withQueue [gapCue .localCue .highZ] s).cue.queue = gapCue .localCue .highZ :: [] ∧
     (gapCue .localCue .highZ).startAngle = none ∧
     (withQueue [rampCue] s).cue.queue = rampCue :: [] ∧ rampCue.gate = .localCue ∧ rampCue.kind ≠ .gap) ∧
    (runningCue (levelCue .localCue 3) 5399).advance < 3 * 1800 ∧
    (let s := heldOpen .none []
     s.state = .run ∧ s.cue.active = some (runningCue (levelCue .group 0) 1795) ∧ s.cue.handover = .none ∧
     s.pll.taken = .none ∧ (heldOpen .announced []).cue.handover ≠ .none ∧ (heldOpen .made []).cue.handover = .made ∧
     settle s = s) ∧
    angleReached (gapCue .localCue .highZ) (inState .run) ∧ ¬ angleReached laterGap (inState .run) := by
  refine ⟨by decide, by decide, by decide +kernel, ?_, ?_⟩
  · intro x h; cases h
  · intro h
    obtain ⟨d, hd, _⟩ := h 100 rfl
    exact absurd hd (Nat.not_lt_zero d)

theorem witness_RampAndFlickerSteps :
    (let a := runningCue rampCue 3600
     (withActive a (inState .run)).cue.active = some a ∧ a.phase = .running ∧ a.cue.kind = .ramp ∧ a.rampDone = false ∧
     a.cue.rampLength.getD 0 * 1800 ≤ a.advance) ∧
    (let s : State := { withActive (runningCue (levelCue .group 2) 0) (inState .run) with
       synth := { flicker := some { a := 1000, a2 := 900, armed := true }, flickerDue := true } }
     s.synth.flickerDue = true ∧ s.synth.flicker = some { a := 1000, a2 := 900, armed := true }) ∧
    (inState .run).cue.active = none ∧ (inState .run).synth.flickerDue = false := by decide

theorem witness_StopCompletionZeroesOutput :
    (let s : State := { inState .fault with synth := { stop := true, stopDue := true } }
     s.synth.stopDue = true ∧ s.state = .fault ∧ s.cue.active = none ∧ closeDue s = false) ∧
    (let a := { runningCue endCueOf 0 with stopRequested := true }
     let s : State := { withActive a (inState .run) with synth := { stop := true, stopDue := true } }
     s.synth.stopDue = true ∧ s.state = .run ∧ s.cue.active = some a ∧ a.cue.kind = .endRun ∧
     a.stopRequested = true ∧ closeDue s = false) ∧ State.reset.synth.stopDue = false := by decide

theorem witness_TransitionClosesAndClampEnds :
    ({ inState .run with sw := { pending := some ⟨.sw0, 0⟩ } } : State).sw.pending = some ⟨.sw0, 0⟩ ∧
    ({ inState .run with sw := { pending := some ⟨.sw1, 0⟩ } } : State).sw.pending = some ⟨.sw1, 0⟩ ∧
    ({ inState .run with sw := { pending := some ⟨.sw1, 1⟩ } } : State).sw.pending = some ⟨.sw1, 0 + 1⟩ ∧
    State.reset.sw.pending = none ∧
    ({ inState .run with synth := { clamp := some 1, clampEndDue := true } } : State).synth.clampEndDue = true ∧
    ({ inState .run with synth := { clamp := some 1, clampEndDue := true } } : State).synth.clampAsked = false ∧
    State.reset.synth.clampEndDue = false := by decide

/-- One interval of 64 edges: of one level, and of both. -/
theorem witness_DecimatorResults :
    (let s : State := { inState .run with setup := { ratio := 64 }, meas := { running := true, i := { settle := 2 } } }
     s.meas.running = true ∧ (List.replicate 64 true).length = s.setup.ratio ∧ (∀ b ∈ List.replicate 64 true, b = true) ∧
     (false :: List.replicate 63 true).length = s.setup.ratio ∧ true ∈ false :: List.replicate 63 true ∧
     false ∈ false :: List.replicate 63 true ∧ s.meas.i.settle = 1 + 1 ∧ s.meas.v.settle = 0 ∧
     s.synth.clampEndDue = false) ∧ State.reset.meas.running = false ∧ 0 < 64 := by decide

theorem witness_RmsValuesAreRoundedRoots :
    (let x : ChannelState := { settled := 78, sumSq := 78 * 32767 ^ 2 }
     0 < x.settled ∧ x.sumSq ≤ x.settled * 32767 ^ 2) := by decide

/-- A LEVEL cue's span in RUN, its half-cycle settled and 500 units off. -/
def atClose : State :=
  { inState .run with
    setup := { checkSkip := 0 }
    meas := {
      v := { produced := 1, settled := 1, sumSq := 4096 ^ 2 }
      i := { produced := 1, settled := 1 }
      hc := { whole := true }
      span := some { kind := .level, check := true, tolerance := none, rampEnded := false, wholeCount := 0, record := {} } } }

/-- Where station 0 crosses the waveform angle 1800 at its next sample, a cue with an open span on its way. -/
def beforeCrossing : State :=
  withActive (runningCue (levelCue .group 9) 100)
    { atClose with pll := { sync := .locked, acc := { whole := 1795 } } }

/-- A half-cycle that is checked and missed, one that is lost, one that brings the overload run to the hold; a loss still to
be passed, and none. -/
theorem witness_HalfCycleCloses :
    (∃ sp, atClose.meas.span = some sp ∧ missesAtClose sp atClose = true) ∧ losesAtClose atClose = false ∧
    losesAtClose (inState .run) = true ∧ isLost (inState .run).meas = true ∧
    holdMetAtClose { inState .run with setup := { limitHold := 1 }, meas := { hc := { limited := true } } } = true ∧
    (inState .run).meas.span = none ∧ (inState .run).meas.lost ≠ isLost (inState .run).meas ∧
    (inState .run).meas.lossDue = false ∧ ({ inState .run with meas := { lossDue := true } } : State).meas.lossDue = true :=
  ⟨⟨_, rfl, by decide +kernel⟩, by decide +kernel, by decide, by decide, by decide, by decide, by decide, by decide,
    by decide⟩

/-- The indicator of `s` changes at a close. -/
def changesLoss (s : State) : Bool := decide (s.meas.lost ≠ isLost s.meas)

/-- A change of the indicator at a close that reaches the miss limit, beside an OUT_OF_TOLERANCE still waiting, outside RUN
and in RUN; a miss, and none. -/
theorem witness_HalfCycleCloses_changes :
    (let s : State := { atClose with setup := { checkSkip := 0, missLimit := 1 }, meas := { atClose.meas with lost := true } }
     limitMetAtClose s = true ∧ stillRuns s = false ∧ changesLoss s = true) ∧
    (let s : State := { inState .run with meas := { toleranceDue := true } }
     stillRuns s = false ∧ changesLoss s = true) ∧
    (stillRuns (inState .enroll) = false ∧ changesLoss (inState .enroll) = true) ∧
    (stillRuns (inState .run) = true ∧ holdMetAtClose (inState .run) = false) ∧
    (inState .run).meas.span.all (fun sp => !missesAtClose sp (inState .run)) = true := by
  decide +kernel

/-- A SAMPLE and an EPOCH whose arc holds one crossing, and one of each that holds none. -/
theorem witness_HalfCycleCloses_rows :
    (beforeCrossing.joined = true ∧ settle beforeCrossing = beforeCrossing ∧ lawful beforeCrossing = true ∧
      sampleSteps (nextOf beforeCrossing) beforeCrossing = none ∧ beforeCrossing.pll.taken = .none ∧
      closesAt (nextOf beforeCrossing).sysAngle (nextOf beforeCrossing).arc 0 beforeCrossing = 1 ∧
      (after .sample beforeCrossing).state = .run) ∧
    (lawful (lockedIn .run) = true ∧
      closesAt (nextOf (lockedIn .run)).sysAngle (nextOf (lockedIn .run)).arc 0 (lockedIn .run) = 0) ∧
    (let s := { beforeCrossing with pll := { sync := .locked, acc := { whole := 3595 } } }
     settle s = s ∧ lawful s = true ∧ epochSteps .falling s = none ∧
     freqWaits s = false ∧ closesAt 0 (s.pll.adv + (3600 - s.pll.acc.whole)) 0 s = 1 ∧
     (after (.epoch .falling) s).state = .run) ∧
    (let s := { lockedIn .enroll with straps := { phase := .l2 }, pll := { sync := .locked, acc := { whole := 3595 } } }
     settle s = s ∧ lawful s = true ∧ closesAt 0 (s.pll.adv + (3600 - s.pll.acc.whole)) 0 s = 0) := by
  decide +kernel

/-- The laws hold after reset and a step follows: what the invariants assume is met. -/
theorem witness_invariants_of_queues :
    SwitchLaw (inState .config) ∧ QueueLaw (inState .config) ∧ CounterLaw (inState .config) ∧ ReportLaw (inState .config) ∧
    StackLaw (inState .config) ∧ ShapeLaw (inState .config) := by decide

theorem witness_invariants_of_faults :
    ResetLaw (inState .config) ∧ FaultLineLaw (inState .config) ∧ CauseLaw (inState .config) ∧
    RosterLaw (inState .config) ∧ SyncLaw (inState .config) ∧ GateLaw (inState .config) ∧
    TransmitLaw (inState .config) ∧ TransmitLaw (after .sample (listening beforeSlot)) ∧
    (after .sample (listening beforeSlot)).peer.tx.isSome = true := by decide +kernel

theorem witness_invariants_of_output :
    WordLaw (inState .config) ∧ EnvelopeLaw (inState .config) ∧ SetsLaw (inState .config) ∧ StopLaw (inState .config) ∧
    SwitchesOpenLaw (inState .config) := by decide

theorem witness_invariants_step :
    (match step { State.reset with pending := [.join []] } with
     | .next t => t.state
     | .fault _ => .config
     | .refused _ => .config) = .enroll := by decide +kernel

theorem witness_SetupFrozenWhileJoined : (inState .run).state ≠ .config ∧ (inState .run).inReset = false := by decide

end Sys2Proof.Tests
end

section
/-! How a law comes through a step, and what the predicates of the statements say of the shared operations: a frame that
the port hears, pending flags, the judgement of readiness at the gate. -/

namespace Sys2Proof.Proofs

open Sys2Proof Sys2Proof.Machine Sys2Proof.Laws Sys2Proof.Claims

variable {s t u : State}

/-! ### Laws and steps -/

theorem next_keeps {law : State → Prop} (h : law u) (he : (.next u : Host.Outcome State Fault Refusal) = .next t) :
    law t := by
  cases he
  exact h

/-- A law that a frame's opening keeps, and what serves the frame, comes through a command of the port. -/
theorem serve_keeps {law : State → Prop} {k : State → State} (hopen : law s → law (openFrame s))
    (hk : law (openFrame s) → law (k (openFrame s))) (h : law s) (he : serve k s = .next t) : law t := by
  refine next_keeps ?_ he
  split
  · exact hk (hopen h)
  · exact h

/-- A law that stands whatever waits, and that every command keeps, is kept by every step. -/
theorem keeps_of_exec {law : State → Prop} (hwait : ∀ (s : State) rest, law s → law { s with pending := rest })
    (hexec : ∀ (c : Instr) (s t : State), law s → exec c s = .next t → law t) : keeps law := by
  intro s t hs he
  unfold step at he
  split at he
  · exact next_keeps hs he
  next c rest _ => exact hexec c _ t (hwait s rest hs) he

/-! ### Host frames -/

theorem cutReply_eq_risen (s : State) : cutReply s = risen s := by
  unfold risen
  split
  next h => exact cutReply_some s h
  next h => exact cutReply_none s (Option.not_isSome_iff_eq_none.mp h)

@[simp] theorem risen_state : (risen s).state = s.state := by rw [← cutReply_eq_risen, cutReply_state]
@[simp] theorem risen_cue : (risen s).cue = s.cue := by rw [← cutReply_eq_risen, cutReply_cue]
@[simp] theorem risen_group : (risen s).group = s.group := by rw [← cutReply_eq_risen, cutReply_group]

theorem risen_summary : (risen s).port.summary = s.port.summary := by
  unfold risen
  split <;> rfl

/-- R176, R180, R182: a reply formed on the frame that has opened is the reply of the statements. -/
theorem answer_openFrame (r : Result) (bytes : List Byte) (s : State) :
    answer r bytes (openFrame s) = replied r bytes s := by
  simp only [openFrame, cutReply_eq_risen, answer, endCommand, replied, repliedWith, frameSummary, risen_summary]

/-! ### Pending flags -/

theorem onlyFlags_refl (a : AlertUnit) : onlyFlags a a := ⟨rfl, BitVec.and_self⟩

theorem onlyFlags_trans {a b c : AlertUnit} (h : onlyFlags a b) (k : onlyFlags b c) : onlyFlags a c := by
  obtain ⟨hb, hab⟩ := h
  obtain ⟨hc, hbc⟩ := k
  refine ⟨by rw [hc, hb], ?_⟩
  rw [← hab, BitVec.and_assoc, hbc]

theorem onlyFlags_raise (c : AlertCause) : onlyFlags s.alert (raise c s).alert := by
  refine ⟨rfl, ?_⟩
  ext i
  simp only [raise_alert, BitVec.getElem_and, BitVec.getElem_or]
  cases s.alert.pending[i] <;> rfl

theorem onlyFlags_raiseIf (b : Bool) (c : AlertCause) : onlyFlags s.alert (raiseIf b c s).alert := by
  cases b with
  | false => exact onlyFlags_refl _
  | true => exact onlyFlags_raise c

theorem onlyFlags_risen : onlyFlags s.alert (risen s).alert := by
  unfold risen
  split
  · exact onlyFlags_raise .frameCut
  · exact onlyFlags_refl _

/-- A flag once set stays set where flags are only set. -/
theorem isFlagged_mono {n : Nat} {a b : AlertUnit} (h : isFlagged n a) (k : onlyFlags a b) : isFlagged n b := by
  obtain ⟨-, hab⟩ := k
  rw [isFlagged, ← hab, BitVec.getLsbD_and, Bool.and_eq_true] at h
  exact h.2

theorem isFlagged_raise (c : AlertCause) : isFlagged c.num (raise c s).alert := by
  have hc : c.num < 14 := by cases c <;> decide
  simp [isFlagged, hc]

/-! ### Readiness at the gate -/

theorem isFree_congr (h : t.cue.active = s.cue.active) : isFree t = isFree s := by
  simp only [isFree, holdsOpen, h]

theorem isFree_iff : isFree s = true ↔ ∀ a, s.cue.active = some a → a.phase = .running ∧ a.cue.duration = some 0 := by
  cases ha : s.cue.active <;> simp [isFree, holdsOpen, ActiveCue.open, ha]

theorem headGate_iff : headGate s = some .group ↔ ∃ c cs, s.cue.queue = c :: cs ∧ c.gate = .group := by
  cases hq : s.cue.queue <;> simp [headGate, hq]

theorem atGate_iff : atGate s = true ↔ standsAtGate s := by
  simp [atGate, standsAtGate, headGate_iff, isFree_iff]

theorem fltSeenHigh_iff : fltSeenHigh s = true ↔ fltHighSeen s := by
  simp [fltSeenHigh, fltHighSeen]

theorem mem_stations (n : Fin 8) : n ∈ stations := by
  revert n; decide

theorem mem_others {n : Fin 8} : n ∈ s.others ↔ n ≠ s.straps.number := by
  simp [State.others, mem_stations]

theorem shows_iff {e : PeerEntry} {p : PeerFrame → Bool} :
    e.shows p = true ↔ e.present = true ∧ ∃ f, e.frame = some f ∧ p f = true := by
  cases hf : e.frame <;> simp [PeerEntry.shows, hf]

theorem headTag_cons {c : Cue} {cs : List Cue} (hq : s.cue.queue = c :: cs) : headTag s = some c.tag := by
  simp [headTag, hq]

/-- R55: no present entry of a roster member shows another gate tag. -/
theorem readyInRun_iff {tag : Nat} (htag : headTag s = some tag) : readyInRun s = true ↔ fltHighSeen s ∧
    ∀ n f, n ≠ s.straps.number → (s.entry n).member = true → (s.entry n).present = true → (s.entry n).frame = some f →
      f.gateTag = none ∨ f.gateTag = some tag := by
  have hother : ∀ f : PeerFrame, otherTag (some tag) f = false ↔ f.gateTag = none ∨ f.gateTag = some tag := by
    intro f
    cases hf : f.gateTag <;> simp [otherTag, hf]
  rw [readyInRun, Bool.and_eq_true, fltSeenHigh_iff, List.all_eq_true, htag]
  refine and_congr_right fun _ => ⟨fun h n f hn hm hp hf => ?_, fun h n hn => ?_⟩
  · have hshow := h n (mem_others.mpr hn)
    simpa [PeerEntry.shows, hm, hp, hf, hother] using hshow
  · rw [Bool.not_eq_true', Bool.and_eq_false_imp]
    intro hm
    rw [Bool.eq_false_iff, Ne, shows_iff]
    rintro ⟨hp, f, hf, ho⟩
    rw [(hother f).mpr (h n f (mem_others.mp hn) hm hp hf)] at ho
    cases ho

theorem runSeen_iff : runSeen s = false ↔
    ∀ n f, n ≠ s.straps.number → (s.entry n).present = true → (s.entry n).frame = some f → f.state ≠ .run := by
  rw [Bool.eq_false_iff, Ne, runSeen, List.any_eq_true]
  simp only [shows_iff, mem_others, decide_eq_true_eq]
  grind

theorem armedCount_eq {tag : Nat} (htag : headTag s = some tag) : armedCount s = armedFor tag s := by
  unfold armedCount armedFor State.others
  rw [List.filter_filter, htag]
  congr 3
  funext n
  cases hf : (s.entry n).frame <;> simp [PeerEntry.shows, hf, Bool.and_comm, Bool.and_assoc, Bool.and_left_comm]

/-- R56: in ARMED. -/
theorem readyInArmed_iff {tag : Nat} (htag : headTag s = some tag) : readyInArmed s = true ↔ fltHighSeen s ∧
    s.pll.sync = .locked ∧ s.setup.groupSize ≤ armedFor tag s ∧
    ∀ n f, n ≠ s.straps.number → (s.entry n).present = true → (s.entry n).frame = some f → f.state ≠ .run := by
  rw [← runSeen_iff, ← armedCount_eq htag, ← fltSeenHigh_iff]
  simp only [readyInArmed, Bool.and_eq_true, decide_eq_true_eq, Bool.not_eq_true']
  exact ⟨fun ⟨⟨⟨hlock, hflt⟩, hsize⟩, hseen⟩ => ⟨hflt, hlock, hsize, hseen⟩,
    fun ⟨hflt, hlock, hsize, hseen⟩ => ⟨⟨⟨hlock, hflt⟩, hsize⟩, hseen⟩⟩

theorem ready_iff : ready s = true ↔ readyAtGate s := by
  rw [ready, Bool.and_eq_true, atGate_iff, readyAtGate]
  refine and_congr_right fun hgate => ?_
  obtain ⟨⟨c, cs, hq, -⟩, hstate⟩ := hgate
  have htag := headTag_cons hq
  have hhead : ∀ p : Cue → Prop, (∀ d ds, s.cue.queue = d :: ds → p d) ↔ p c := by
    intro p
    simp [hq]
  rw [hhead (fun d => _ ∧ _)]
  rcases hstate with harmed | ⟨hrun, -⟩
  · simp [harmed, readyInArmed_iff htag]
  · simp [hrun, readyInRun_iff htag]

theorem atGate_judgeGate : atGate (judgeGate s) = atGate s := (congrArg atGate (judgeGate_eq s)).trans rfl

theorem ready_judgeGate : ready (judgeGate s) = ready s := (congrArg ready (judgeGate_eq s)).trans rfl

theorem driveGate_group_eq : (driveGate s).group = { s.group with
    drive := if ready s then .released else .heldLow
    timer := if ready s && decide (s.group.drive ≠ .released) then 0 else s.group.timer
    timerOn := if ready s then s.group.timerOn || decide (s.group.drive ≠ .released) else false } := by
  cases hr : ready s with
  | false => simp [driveGate_holds s hr]
  | true =>
    by_cases hd : s.group.drive = .released
    · simp [driveGate_waits s hr hd, ← hd]
    · simp [driveGate_releases s hr hd, hd]

/-- R53, R58, R60, R61: what a judgement makes of the Group Controller in ARMED and RUN. -/
theorem judgeGate_group_eq (hs : s.state = .armed ∨ s.state = .run) : (judgeGate s).group =
    if s.group.pulse then { s.group with tagCounts := if atGate s then s.group.tagCounts else zeroCounts }
    else { s.group with
      tagCounts := if atGate s then s.group.tagCounts else zeroCounts
      drive := if ready s then .released else .heldLow
      timer := if ready s && decide (s.group.drive ≠ .released) then 0 else s.group.timer
      timerOn := if ready s then s.group.timerOn || decide (s.group.drive ≠ .released) else false } := by
  have hgroup : (if atGate s then s else clearTags s).group = { s.group with
      tagCounts := if atGate s then s.group.tagCounts else zeroCounts } := by split <;> rfl
  have hready : ready (if atGate s then s else clearTags s) = ready s := by split <;> rfl
  rw [judgeGate, if_pos hs]
  dsimp only
  rw [apply_ite State.group, driveGate_group_eq, hgroup, hready]

/-- A judgement of readiness is one as the statements describe it. -/
theorem judgeGate_gateJudged : gateJudged s.group (judgeGate s) := by
  have hat : standsAtGate (judgeGate s) ↔ atGate s = true := by rw [← atGate_iff, atGate_judgeGate]
  have hready : readyAtGate (judgeGate s) ↔ ready s = true := by rw [← ready_iff, ready_judgeGate]
  rw [gateJudged, hat, hready, judgeGate_state]
  refine ⟨fun ha hr => by rw [judgeGate_off s ha hr], fun hs => ?_⟩
  rw [judgeGate_group_eq hs]
  cases hp : s.group.pulse with
  | true => simp +contextual [hp, zeroCounts, List.replicate]
  | false => simp +contextual [hp, zeroCounts, List.replicate]

end Sys2Proof.Proofs
end

section
/-! The laws of the cue queue (R8, R15) and of the cue counters (R18): every operation keeps them. -/

namespace Sys2Proof.Proofs

open Sys2Proof Sys2Proof.Machine Sys2Proof.Laws Sys2Proof.Claims

variable {s t u : State}

/-! ### The law and what it reads -/

/-- R8, R15, R18: the law of the queue together with the law of the counters. -/
def CueLaw (s : State) : Prop := QueueLaw s ∧ CounterLaw s

/-- What the law reads of a state stands: the station state, the queue, the counters and whether a cue is active. -/
structure CueFrame (s t : State) : Prop where
  state : t.state = s.state
  queue : t.cue.queue = s.cue.queue
  active : t.cue.active.isSome = s.cue.active.isSome
  accepted : t.cue.accepted = s.cue.accepted
  started : t.cue.started = s.cue.started
  ended : t.cue.ended = s.cue.ended
  discarded : t.cue.discarded = s.cue.discarded

theorem CueFrame.of_eq (hs : t.state = s.state) (hc : t.cue = s.cue) : CueFrame s t := by
  constructor <;> simp [hs, hc]

theorem CueFrame.trans (h : CueFrame s t) (k : CueFrame t u) : CueFrame s u where
  state := k.state.trans h.state
  queue := k.queue.trans h.queue
  active := k.active.trans h.active
  accepted := k.accepted.trans h.accepted
  started := k.started.trans h.started
  ended := k.ended.trans h.ended
  discarded := k.discarded.trans h.discarded

theorem CueLaw.of_frame (h : CueLaw s) (k : CueFrame s t) : CueLaw t := by
  simpa only [CueLaw, QueueLaw, CounterLaw, k.state, k.queue, k.active, k.accepted, k.started, k.ended,
    k.discarded] using h

/-- An operation on the other blocks keeps the law. -/
theorem CueLaw.of_eq (h : CueLaw s) (hs : t.state = s.state) (hc : t.cue = s.cue) : CueLaw t :=
  h.of_frame (.of_eq hs hc)

/-- R8: outside RUN no cue is active. -/
theorem CueLaw.active_none (h : CueLaw s) (hs : s.state ≠ .run) : s.cue.active = none := by
  obtain ⟨⟨-, hrun, -⟩, -⟩ := h
  cases ha : s.cue.active with
  | none => rfl
  | some a => exact absurd (hrun (by simp [ha])) hs

/-- R15: a station in FAULT or RECOVER has an empty queue. -/
theorem CueLaw.queue_nil (h : CueLaw s) (hs : s.state = .fault ∨ s.state = .recover) : s.cue.queue = [] := by
  obtain ⟨⟨-, -, hnil⟩, -⟩ := h
  exact hnil hs

/-- Without an active cue the station may go to any state that its queue allows. -/
theorem CueLaw.change_state (h : CueLaw s) (hc : t.cue = s.cue) (ha : s.cue.active = none)
    (hq : (t.state = .fault ∨ t.state = .recover) → s.cue.queue = []) : CueLaw t := by
  obtain ⟨⟨hlen, -, -⟩, hcount⟩ := h
  rw [CueLaw, QueueLaw, CounterLaw, hc]
  exact ⟨⟨hlen, by simp [ha], hq⟩, hcount⟩

/-- With an empty queue and no active cue the counters alone are left of the law. -/
theorem CueLaw.of_empty (hq : s.cue.queue = []) (ha : s.cue.active = none) (hc : CounterLaw s) : CueLaw s :=
  ⟨⟨by simp [hq], by simp [ha], fun _ => hq⟩, hc⟩

theorem judgeGate_cueLaw (h : CueLaw s) : CueLaw (judgeGate s) := h.of_eq (by simp) (by simp)

theorem finishWord_cueLaw (h : CueLaw s) : CueLaw (finishWord s) := h.of_eq (by simp) (by simp)

/-! ### Ends of cues, flushes, fault entries -/

theorem endCue_cue_some (o : CueOutcome) {a : ActiveCue} (h : s.cue.active = some a) :
    (endCue o s).cue = { s.cue with active := none, ended := s.cue.ended + 1 } := by
  rw [endCue_some s o a h]; simp [closeSpan]

@[simp] theorem endCue_active (o : CueOutcome) : (endCue o s).cue.active = none := by
  cases h : s.cue.active with
  | none => rw [endCue_none s o h, h]
  | some a => rw [endCue_cue_some o h]

@[simp] theorem endCue_queue (o : CueOutcome) : (endCue o s).cue.queue = s.cue.queue := by
  cases h : s.cue.active with
  | none => rw [endCue_none s o h]
  | some a => rw [endCue_cue_some o h]

/-- R18, R31: the end of a cue moves one from the active cue to the ended counter. -/
theorem endCue_counterLaw (o : CueOutcome) (h : CounterLaw s) : CounterLaw (endCue o s) := by
  cases ha : s.cue.active with
  | none => rwa [endCue_none s o ha]
  | some a =>
    obtain ⟨hacc, hstart⟩ := h
    rw [CounterLaw, endCue_cue_some o ha]
    simp only [ha, Option.isSome_some, if_true] at hstart
    exact ⟨hacc, by simpa using hstart⟩

theorem endCue_cueLaw (o : CueOutcome) (h : CueLaw s) : CueLaw (endCue o s) := by
  obtain ⟨⟨hlen, -, hnil⟩, hcount⟩ := h
  exact ⟨⟨by simpa using hlen, by simp, by simpa using hnil⟩, endCue_counterLaw o hcount⟩

theorem flushQueue_cue : (flushQueue s).cue = { s.cue with
    queue := [], discarded := s.cue.discarded + BitVec.ofNat 32 s.cue.queue.length } := by
  simp [flushQueue]

/-- R18: a flush moves the queue's depth to the discarded counter. -/
theorem flushQueue_counterLaw (h : CounterLaw s) : CounterLaw (flushQueue s) := by
  obtain ⟨hacc, hstart⟩ := h
  rw [CounterLaw, flushQueue_cue]
  refine ⟨?_, hstart⟩
  simp only [List.length_nil, hacc]
  ac_nf

theorem flushQueue_cueLaw (h : CueLaw s) : CueLaw (flushQueue s) := by
  obtain ⟨⟨-, hrun, -⟩, hcount⟩ := h
  refine ⟨?_, flushQueue_counterLaw hcount⟩
  simpa [QueueLaw, flushQueue_cue] using hrun

theorem faultEntry_cue (c : FaultCause) :
    (faultEntry c s).cue = (flushQueue (cutCue (stopDriving (recordEpisode c s)))).cue := by
  simp only [faultEntry]
  split <;> simp [endShares]

/-- R113 to R116: a fault entry flushes the queue and cuts the active cue. -/
theorem faultEntry_cueLaw (c : FaultCause) (h : CueLaw s) : CueLaw (faultEntry c s) := by
  obtain ⟨-, hcount⟩ := h
  have hcut : CounterLaw (cutCue (stopDriving (recordEpisode c s))) := endCue_counterLaw .cut hcount
  have hc := faultEntry_cue (s := s) c
  refine .of_empty (by simp [hc, flushQueue_cue]) (by simp [hc, flushQueue_cue, cutCue]) ?_
  rw [CounterLaw, hc]
  exact flushQueue_counterLaw hcut

theorem passCause_cueLaw (c : FaultCause) (h : CueLaw s) : CueLaw (passCause c s) := by
  unfold passCause
  split
  · exact faultEntry_cueLaw c h
  · split
    · exact h.of_eq rfl rfl
    · exact h

/-- R45: the close of a run ends the active cue and leaves the queue as it stands. -/
theorem closeRun_cueLaw (h : CueLaw s) : CueLaw (closeRun s) :=
  (endCue_cueLaw .done h).change_state
    (by simp [closeRun, leaveGate, dropGateCauses, stopDriving, clearRoster, endShares]) (by simp) (by simp [closeRun])

/-! ### Activation -/

@[simp] theorem supersede_queue : (supersede s).cue.queue = s.cue.queue := by
  unfold supersede
  (repeat' split) <;> simp [flickerReturn]

/-- R26: a free station has no active cue once its open cue is superseded. -/
theorem supersede_active_none (hf : isFree s = true) : (supersede s).cue.active = none := by
  cases ha : s.cue.active with
  | none => rw [supersede_none s ha, ha]
  | some a =>
    have ho : a.open = true := by simpa [isFree, holdsOpen, ha] using hf
    simp [supersede, ha, ho]

theorem supersede_cueLaw (h : CueLaw s) : CueLaw (supersede s) := by
  unfold supersede
  split
  · exact h
  · split
    · refine endCue_cueLaw .done ?_
      split <;> exact h.of_frame ⟨rfl, rfl, rfl, rfl, rfl, rfl, rfl⟩
    · exact h

theorem activate_cue_cons (b : Bool) {c : Cue} {cs : List Cue} (hq : s.cue.queue = c :: cs) :
    (activate b s).cue = { (supersede s).cue with
      queue := cs
      active := some (freshActive c b (supersede s).group.runCycle)
      started := (supersede s).cue.started + 1
      deferredGap := if c.kind = .endRun then none else (supersede s).cue.deferredGap } := by
  simp [activate, hq, clearTags]

/-- R10, R18: on a free station in RUN the head leaves the queue for the started counter. -/
theorem activate_cueLaw (b : Bool) (h : CueLaw s) (hr : s.state = .run) (hf : isFree s = true) :
    CueLaw (activate b s) := by
  cases hq : s.cue.queue with
  | nil => rwa [activate_nil s b hq]
  | cons c cs =>
    obtain ⟨⟨hlen, -, -⟩, hacc, hstart⟩ := supersede_cueLaw h
    rw [supersede_queue, hq, List.length_cons] at hlen hacc
    simp only [supersede_active_none hf, Option.isSome_none, Bool.false_eq_true, if_false] at hstart
    simp only [CueLaw, QueueLaw, CounterLaw, activate_cue_cons b hq, activate_state, hr]
    refine ⟨⟨by omega, by simp, by simp⟩, ?_, by simp [hstart]⟩
    simp only [hacc, BitVec.ofNat_add]
    ac_nf

/-- R27: a station that looks at its head activates it where it is free in RUN alone. -/
theorem lookAtHead_cueLaw (b : Bool) (h : CueLaw s) : CueLaw (lookAtHead b s) := by
  unfold lookAtHead
  split
  next hc =>
    obtain ⟨hr, hf⟩ := hc
    split
    · exact h.of_eq rfl rfl
    · exact activate_cueLaw b h hr hf
    · exact h
  · exact h

/-! ### Starts and completions of cues -/

theorem mapActive_frame (f : ActiveCue → ActiveCue) : CueFrame s (mapActive f s) := by
  constructor <;> simp [mapActive]

theorem startSwitches_frame (c : Cue) : CueFrame s (startSwitches c s) := by
  unfold startSwitches
  dsimp only
  split <;> constructor <;> simp

theorem startRequests_frame (c : Cue) : CueFrame s (startRequests c s) := by
  unfold startRequests
  split
  case h_3 => exact mapActive_frame _
  case h_8 => exact (mapActive_frame _).trans (.of_eq (requestStop_state _) (requestStop_cue _))
  all_goals exact .of_eq (by simp [setLevel, markFreq]) (by simp [setLevel, markFreq])

/-- R34: the cue's start requests, made at its start sample. -/
theorem beginCue_cueLaw (a : ActiveCue) (h : CueLaw s) : CueLaw (beginCue a s) := by
  have hrun : CueLaw (openSpan a.cue (enterRunning s)) := (h.of_frame (mapActive_frame _)).of_eq rfl rfl
  have hreq := (hrun.of_frame (startSwitches_frame a.cue)).of_frame (startRequests_frame a.cue)
  refine finishWord_cueLaw (judgeGate_cueLaw ?_)
  split
  · exact lookAtHead_cueLaw true hreq
  · exact hreq

theorem startCue_cueLaw (h : CueLaw s) : CueLaw (startCue s) := by
  unfold startCue
  split
  · exact h
  · split
    · exact beginCue_cueLaw _ h
    · exact h

theorem startChain_cueLaw (n : Nat) (h : CueLaw s) : CueLaw (startChain n s) := by
  induction n generalizing s with
  | zero => exact h
  | succ n ih =>
    rw [startChain_succ]
    exact ih (startCue_cueLaw h)

theorem endGap_frame (mode : Option SwitchMode) : CueFrame s (endGap mode s) := by
  unfold endGap
  (repeat' split) <;> constructor <;> simp

/-- R25: the completion of a cue and the next step of the free station. -/
theorem completeCue_cueLaw (h : CueLaw s) : CueLaw (completeCue s) := by
  unfold completeCue
  split
  · exact h
  next a _ =>
    split
    · have hflicker : CueLaw (if a.cue.kind = .flicker then flickerReturn a s else s) := by
        split
        · exact h.of_eq rfl rfl
        · exact h
      have hnext := lookAtHead_cueLaw true (endCue_cueLaw .done hflicker)
      refine finishWord_cueLaw (judgeGate_cueLaw ?_)
      split
      · exact hnext.of_frame (endGap_frame _)
      · exact hnext
    · exact h

/-! ### What a sample and an epoch leave due -/

theorem noteCompletion_frame : CueFrame s (noteCompletion s) := by
  unfold noteCompletion
  split <;> constructor <;> rfl

theorem endRamp_frame : CueFrame s (endRamp s) := by
  unfold endRamp
  (repeat' split) <;> constructor <;> simp [setLevel, mapActive]

theorem changeFlicker_frame : CueFrame s (changeFlicker s) := by
  unfold changeFlicker
  dsimp only
  (repeat' split) <;> constructor <;> simp [makeChange, *]

theorem completeStop_cueLaw (h : CueLaw s) : CueLaw (completeStop s) := by
  unfold completeStop
  split
  · have hstop : CueLaw (doSwitch .stopCompletion (stopOutput s)) :=
      h.of_eq (by simp [stopOutput]) (by simp [stopOutput])
    dsimp only
    split
    · exact closeRun_cueLaw hstop
    · exact hstop.of_eq (by simp) (by simp)
  · exact h

theorem settleSample_cueLaw (h : CueLaw s) : CueLaw (settleSample s) := by
  have hnote := h.of_frame noteCompletion_frame
  have hclose : CueLaw (if closeDue (noteCompletion s) then finishWord (takeDueClosing (noteCompletion s))
      else noteCompletion s) := by
    split
    · exact hnote.of_eq (by simp) (by simp)
    · exact hnote
  have hclamp := ((hclose.of_frame endRamp_frame).of_frame changeFlicker_frame).of_eq (endClamp_state _) (endClamp_cue _)
  exact finishWord_cueLaw (startChain_cueLaw _ (completeCue_cueLaw (completeStop_cueLaw hclamp)))

theorem passLoss_cueLaw (h : CueLaw s) : CueLaw (passLoss s) := by
  unfold passLoss
  split
  · exact passCause_cueLaw .measLost (h.of_eq rfl rfl)
  · exact h

theorem passOverload_cueLaw (h : CueLaw s) : CueLaw (passOverload s) := by
  unfold passOverload
  split
  · exact passCause_cueLaw .overload (h.of_eq rfl rfl)
  · exact h

theorem passTolerance_cueLaw (h : CueLaw s) : CueLaw (passTolerance s) := by
  unfold passTolerance
  split
  · exact passCause_cueLaw .outOfTolerance (h.of_eq rfl rfl)
  · exact h

theorem timeoutStep_cueLaw (h : CueLaw s) : CueLaw (timeoutStep s) := by
  unfold timeoutStep
  split
  · exact passCause_cueLaw .gateTimeout (h.of_eq rfl rfl)
  · exact h

theorem tagStep_cueLaw (n : Fin 8) (h : CueLaw s) : CueLaw (tagStep n s) := by
  unfold tagStep
  split
  · exact passCause_cueLaw .tagMismatch (h.of_eq rfl rfl)
  · exact h

theorem absentStep_cueLaw (n : Fin 8) (h : CueLaw s) : CueLaw (absentStep n s) := by
  have hreport : ∀ member, ∀ u, CueLaw u → CueLaw (reportAbsence n member u) := by
    intro member u hu
    have hoffer : CueLaw (offer (.peerAbsent n) u) := hu.of_eq (by simp) (by simp)
    unfold reportAbsence
    dsimp only
    split
    · exact passCause_cueLaw .peerLost hoffer
    · split
      · exact passCause_cueLaw .peerLost (hoffer.of_eq rfl rfl)
      · exact hoffer.of_eq rfl rfl
  unfold absentStep becomeAbsent
  dsimp only
  split
  · split
    · exact h.of_eq rfl rfl
    · exact judgeGate_cueLaw (hreport _ _ (h.of_eq rfl rfl))
  · exact h

theorem settleEpoch_cueLaw (h : CueLaw s) : CueLaw (settleEpoch s) := by
  have hlock : CueLaw (founderStep (lockStep s)) := h.of_eq (by simp) (by simp)
  have habsent := List.foldlRecOn stations (fun t n => absentStep n t) hlock
    (motive := CueLaw) (fun _ hu n _ => absentStep_cueLaw n hu)
  have hshare := List.foldlRecOn stations (fun t n => shareStep n t) habsent
    (motive := CueLaw) (fun _ hu n _ => hu.of_eq (shareStep_state _ n) (shareStep_cue _ n))
  exact (timeoutStep_cueLaw hshare).of_eq (recordStep_state _) (recordStep_cue _)

theorem settle_cueLaw (h : CueLaw s) : CueLaw (settle s) := by
  have hepoch := settleEpoch_cueLaw (passLoss_cueLaw (settleSample_cueLaw h))
  have htags := List.foldlRecOn stations (fun t n => tagStep n t) hepoch
    (motive := CueLaw) (fun _ hu n _ => tagStep_cueLaw n hu)
  exact passTolerance_cueLaw (passOverload_cueLaw htags)

/-! ### The instants of the time base -/

theorem arrive_frame (p : PhaseLock) : CueFrame s (arrive p s) := by
  constructor <;> simp [arrive, countAdvance, mapActive, moveTo]

theorem closeAt_cueLaw (hold : Bool) (closing : Nat) (h : CueLaw s) : CueLaw (closeAt hold closing s) := by
  have hclose : CueLaw (closeHalves closing s) := h.of_eq (by simp) (by simp)
  unfold closeAt
  dsimp only
  split
  · exact hclose
  · exact passLoss_cueLaw hclose

theorem arriveAt_cueLaw (hold : Bool) (steps : Option Nat) (p : PhaseLock) (h : CueLaw s) :
    CueLaw (arriveAt hold steps p s) :=
  (closeAt_cueLaw hold (crossed steps (arrive p s)) (h.of_frame (arrive_frame p))).of_eq
    (by simp [arriveAt]) (by simp [arriveAt])

theorem foldSteps_cueLaw (steps : Option Nat) (h : CueLaw s) : CueLaw (foldSteps steps s) := by
  unfold foldSteps
  split
  · exact passLoss_cueLaw (settleSample_cueLaw h)
  · exact h

theorem nextStep_cueLaw (h : CueLaw s) : CueLaw (nextStep s) := by
  unfold nextStep
  split
  · exact h
  · dsimp only
    split
    · exact settle_cueLaw h
    · exact finishWord_cueLaw (foldSteps_cueLaw _ (arriveAt_cueLaw _ _ _ (settle_cueLaw h)))

theorem sampleStep_cueLaw (h : CueLaw s) : CueLaw (sampleStep s) := by
  unfold sampleStep
  split
  · split
    · exact nextStep_cueLaw h
    · exact finishWord_cueLaw (passLoss_cueLaw (h.of_eq rfl rfl))
    · exact h
  · exact h

theorem loseSync_cueLaw (h : CueLaw s) : CueLaw (loseSync s) := by
  unfold loseSync
  split
  · exact passCause_cueLaw .syncLost h
  · exact h

theorem judgeWindow_cueLaw (line : SynLine) (h : CueLaw s) : CueLaw (judgeWindow line s) := by
  have hclose : CueLaw (closeWindow line s) := h.of_eq rfl rfl
  unfold judgeWindow judgeLockedActive
  dsimp only
  split
  · exact hclose.of_eq (by simp) (by simp)
  · split
    · (repeat' split)
      · exact loseSync_cueLaw hclose
      · exact hclose.of_eq rfl rfl
      · exact hclose.of_eq rfl rfl
      · exact loseSync_cueLaw (hclose.of_eq rfl rfl)
    · exact hclose.of_eq (by simp) (by simp)

theorem judgeEpoch_cueLaw (line : SynLine) (h : CueLaw s) : CueLaw (judgeEpoch line s) := by
  have hshares : CueLaw (checkShares s) := h.of_eq (by simp) (by simp)
  exact (judgeWindow_cueLaw line hshares).of_eq (by simp [judgeEpoch, pullIfLocked]) (by simp [judgeEpoch, pullIfLocked])

theorem applyFreq_cueLaw (freq : Bool) (h : CueLaw s) : CueLaw (applyFreq freq s) := by
  unfold applyFreq
  split
  · split
    · exact beginCue_cueLaw _ (h.of_eq rfl rfl)
    · exact h
  · exact h

theorem takeEpoch_cueLaw (line : SynLine) (h : CueLaw s) : CueLaw (takeEpoch line s) := by
  have hcount : CueLaw (countAtEpoch s) := h.of_eq (by simp [countAtEpoch, agePeers]) (by simp [countAtEpoch, agePeers])
  have harrive := arriveAt_cueLaw (epochSteps line s).isSome (epochSteps line s) (epochSample s.pll) hcount
  unfold takeEpoch
  dsimp only
  split
  · exact finishWord_cueLaw (foldSteps_cueLaw _ (applyFreq_cueLaw true (judgeEpoch_cueLaw line harrive)))
  · exact finishWord_cueLaw (judgeEpoch_cueLaw line (foldSteps_cueLaw _ harrive))

theorem endTakenEpoch_cueLaw (line : SynLine) (h : CueLaw s) : CueLaw (endTakenEpoch line s) := by
  refine finishWord_cueLaw (judgeEpoch_cueLaw line (passLoss_cueLaw ?_))
  exact h.of_eq (by simp [agePeers]) (by simp [agePeers])

theorem epochStep_cueLaw (line : SynLine) (h : CueLaw s) : CueLaw (epochStep line s) := by
  unfold epochStep
  split
  · split
    · exact takeEpoch_cueLaw line (settle_cueLaw h)
    · exact takeEpoch_cueLaw line (settle_cueLaw (h.of_eq rfl rfl))
    · exact endTakenEpoch_cueLaw line h
  · exact h

/-! ### Activations by an opening or an append -/

/-- A sample taken with its MEAS_LOST held back is the arrival alone, as far as the cues see. -/
theorem arriveAt_hold (steps : Option Nat) (p : PhaseLock) :
    (arriveAt true steps p s).state = s.state ∧ (arriveAt true steps p s).cue = (arrive p s).cue := by
  simp [arriveAt, closeAt, arrive, countAdvance, mapActive, moveTo]

theorem isFree_arrive (p : PhaseLock) : isFree (arrive p s) = isFree s := by
  cases ha : s.cue.active with
  | none => simp [isFree, arrive, countAdvance, mapActive, moveTo, ha]
  | some a =>
    have hopen : (a.atSample (moveTo p s).pll.arc (moveTo p s).group.runCycle).open = a.open := by
      unfold ActiveCue.atSample ActiveCue.open
      (repeat' split) <;> rfl
    simpa [isFree, holdsOpen, arrive, countAdvance, mapActive, moveTo, ha] using hopen

theorem activateWithSample_cueLaw (h : CueLaw s) (hr : s.state = .run) (hf : isFree s = true) :
    CueLaw (activateWithSample s) := by
  have hcount : CueLaw (countComing s) := h.of_eq (by simp) (by simp)
  have harrive := arriveAt_cueLaw true (comingSteps s) (comingSample s.pll) hcount
  obtain ⟨hstate, hcue⟩ := arriveAt_hold (s := countComing s) (comingSteps s) (comingSample s.pll)
  have hfree : isFree (arriveAt true (comingSteps s) (comingSample s.pll) (countComing s)) = true := by
    rw [isFree_congr (congrArg _ hcue), isFree_arrive, isFree_congr (congrArg _ (countComing_cue s)), hf]
  have hact := activate_cueLaw true harrive (by rw [hstate, countComing_state, hr]) hfree
  refine finishWord_cueLaw ?_
  split
  · exact settleSample_cueLaw hact
  · exact hact

theorem requestActivation_cueLaw (h : CueLaw s) (hr : s.state = .run) (hf : isFree s = true) :
    CueLaw (requestActivation s) := by
  unfold requestActivation
  split
  · exact activateWithSample_cueLaw h hr hf
  · exact activate_cueLaw false h hr hf

theorem completionRow_cueLaw (h : CueLaw s) : CueLaw (completionRow s) := by
  have hsettle := settle_cueLaw h
  unfold completionRow announceEnd
  dsimp only
  split
  · exact h.of_frame ⟨rfl, rfl, rfl, rfl, rfl, rfl, rfl⟩
  · split
    · split
      · exact hsettle.of_frame ⟨rfl, rfl, rfl, rfl, rfl, rfl, rfl⟩
      · exact hsettle
    · exact completeCue_cueLaw h

theorem openRun_state : (openRun s).state = .run := by
  simp [openRun, beginOutput, endShares, fixRoster]

/-- R58: an opening finds the station in ARMED without an active cue, or free in RUN. -/
theorem seeOpening_cueLaw (h : CueLaw s) : CueLaw (seeOpening s) := by
  unfold seeOpening
  split
  next hseen =>
    have hpulse : CueLaw (beginPulse s) := h.of_eq rfl rfl
    dsimp only
    split
    next harmed =>
      have hnone : s.cue.active = none := h.active_none (by rw [harmed]; decide)
      have hopen : CueLaw (openRun (beginPulse s)) :=
        hpulse.change_state (openRun_cue _) hnone (by simp [openRun_state])
      refine activate_cueLaw false hopen openRun_state ?_
      simp [isFree, beginPulse, hnone]
    next harmed =>
      have hrun : s.state = .run ∧ isFree s = true := by
        simp_all [openingSeen, atGate]
      exact requestActivation_cueLaw hpulse hrun.1 hrun.2
  · exact h

/-! ### The host commands -/

/-- R7: an accepted cue adds one to the queue's depth and to the accepted counter. -/
theorem appendCue_cueLaw (c : Cue) (h : CueLaw s) (hs : cueAllowed s.state = true) (hroom : s.cue.queue.length < 32) :
    CueLaw (appendCue c s) := by
  obtain ⟨⟨-, hrun, -⟩, hacc, hstart⟩ := h
  refine ⟨⟨?_, hrun, ?_⟩, ?_, hstart⟩
  · simp only [appendCue, List.length_append, List.length_singleton]
    omega
  · rintro (hf | hf) <;> simp_all [appendCue, cueAllowed]
  · simp only [appendCue, hacc, List.length_append, List.length_singleton, BitVec.ofNat_add]
    ac_nf

theorem afterAppend_cueLaw (b : Bool) (c : Cue) (h : CueLaw s) : CueLaw (afterAppend b c s) := by
  refine judgeGate_cueLaw ?_
  split
  next hc =>
    obtain ⟨hr, hf, -⟩ := hc
    exact requestActivation_cueLaw h hr hf
  · exact h

theorem takeCue_cueLaw (p : List Byte) (h : CueLaw s) : CueLaw (takeCue p s) := by
  unfold takeCue
  split
  next hs =>
    split
    · exact h.of_eq (by simp) (by simp)
    · split
      · exact h.of_eq rfl rfl
      next hfull =>
        have hroom : s.cue.queue.length < 32 := Nat.lt_of_not_le hfull
        exact afterAppend_cueLaw _ _ ((appendCue_cueLaw _ h hs hroom).of_eq rfl rfl)
  · exact h.of_eq rfl rfl

theorem takeFlush_cueLaw (h : CueLaw s) : CueLaw (takeFlush s) := by
  refine CueLaw.of_eq (s := if s.cue.queue.isEmpty then s else afterFlush (flushQueue s)) ?_ rfl rfl
  split
  · exact h
  · exact (flushQueue_cueLaw h).of_eq (by simp) (by simp)

theorem takeSetup_cueLaw (p : List Byte) (h : CueLaw s) : CueLaw (takeSetup p s) := by
  unfold takeSetup
  (repeat' split) <;> exact h.of_eq rfl rfl

theorem takeHset_cueLaw (p : List Byte) (h : CueLaw s) : CueLaw (takeHset p s) := by
  unfold takeHset
  (repeat' split) <;> exact h.of_eq rfl rfl

/-- R48: a station in CONFIG joins without an active cue. -/
theorem takeJoin_cueLaw (h : CueLaw s) : CueLaw (takeJoin s) := by
  unfold takeJoin
  split
  next hs => exact h.change_state rfl (h.active_none (by simp [hs])) (by simp [answer, joinGroup])
  · exact h.of_eq rfl rfl

theorem takeLeave_cueLaw (h : CueLaw s) : CueLaw (takeLeave s) := by
  unfold takeLeave
  split
  next hs =>
    have hnone := h.active_none (by rcases hs with hs | hs <;> simp [hs])
    exact h.change_state (leaveGroup_cue s) hnone (by simp [answer, leaveGroup])
  · exact h.of_eq rfl rfl

theorem takeArm_cueLaw (h : CueLaw s) : CueLaw (takeArm s) := by
  unfold takeArm
  split
  · exact h.of_eq rfl rfl
  next hs =>
    have henroll : s.state = .enroll := by
      refine Decidable.byContradiction fun hne => ?_
      rw [armRefusal, if_pos hne] at hs
      cases hs
    exact h.change_state (armGate_cue s) (h.active_none (by simp [henroll])) (by simp [answer, armGate])

theorem takeDisarm_cueLaw (h : CueLaw s) : CueLaw (takeDisarm s) := by
  unfold takeDisarm
  split
  next hs => exact h.change_state (disarmGate_cue s) (h.active_none (by simp [hs])) (by simp [answer, disarmGate])
  · exact h.of_eq rfl rfl

theorem takeAbort_cueLaw (h : CueLaw s) : CueLaw (takeAbort s) := by
  unfold takeAbort
  split
  · exact h.of_eq rfl rfl
  · exact (passCause_cueLaw .hostAbort h).of_eq rfl rfl

/-- R122: a station in RECOVER goes on to ENROLL without an active cue. -/
theorem recoverIfHigh_cueLaw (h : CueLaw s) : CueLaw (recoverIfHigh s) := by
  unfold recoverIfHigh
  split
  next hs =>
    obtain ⟨hrec, -⟩ := hs
    exact h.change_state rfl (h.active_none (by simp [hrec])) (by simp)
  · exact h

/-- R121: FAULT's empty queue goes into RECOVER. -/
theorem clearFault_cueLaw (h : CueLaw s) (hs : s.state = .fault) : CueLaw (clearFault s) := by
  refine recoverIfHigh_cueLaw ?_
  exact h.change_state (by simp [clearRoster]) (h.active_none (by simp [hs])) (fun _ => h.queue_nil (.inl hs))

theorem takeClearFault_cueLaw (h : CueLaw s) : CueLaw (takeClearFault s) := by
  unfold takeClearFault
  split
  next hs =>
    obtain ⟨hfault, -⟩ := hs
    exact (clearFault_cueLaw h hfault).of_eq rfl rfl
  · exact h.of_eq rfl rfl

theorem takeRecords_cueLaw (p : List Byte) (h : CueLaw s) : CueLaw (takeRecords p s) := by
  unfold takeRecords
  split <;> exact h.of_eq rfl rfl

theorem takeClearLoss_cueLaw (h : CueLaw s) : CueLaw (takeClearLoss s) := by
  unfold takeClearLoss
  (repeat' split)
  · exact h.of_eq rfl rfl
  · exact h.of_eq rfl rfl
  · exact h.of_eq (storeLoss_state s) (storeLoss_cue s)

theorem takeAlertSet_cueLaw (p : List Byte) (h : CueLaw s) : CueLaw (takeAlertSet p s) := by
  unfold takeAlertSet
  split <;> exact h.of_eq rfl rfl

theorem takeAlertNext_cueLaw (h : CueLaw s) : CueLaw (takeAlertNext s) := by
  unfold takeAlertNext
  split <;> exact h.of_eq rfl rfl

theorem takeAlertDone_cueLaw (h : CueLaw s) : CueLaw (takeAlertDone s) := by
  unfold takeAlertDone
  split <;> exact h.of_eq rfl rfl

/-! ### The other rows -/

theorem resetTo_cueLaw (port : Port) (sets : List HarmonicSet) : CueLaw (resetTo port sets s) :=
  .of_empty rfl rfl ⟨by simp [resetTo], by simp [resetTo]⟩

theorem commandReset_cueLaw (h : CueLaw s) : CueLaw (commandReset s) := by
  unfold commandReset
  split
  · exact resetTo_cueLaw _ _
  · exact h

theorem endReset_cueLaw (id : Fin 8) (phase : PhaseAssign) (csnHigh : Bool) (h : CueLaw s) :
    CueLaw (endReset id phase csnHigh s) := by
  unfold endReset
  split
  · exact h.of_eq rfl rfl
  · exact h

theorem completeReply_cueLaw (h : CueLaw s) : CueLaw (completeReply s) := by
  unfold completeReply
  (repeat' split)
  · exact h
  all_goals exact h.of_eq rfl rfl

theorem frameSent_cueLaw (h : CueLaw s) : CueLaw (frameSent s) := by
  unfold frameSent
  split
  · exact h
  · exact h.of_eq rfl rfl

theorem readbackFails_cueLaw (h : CueLaw s) : CueLaw (readbackFails s) := by
  unfold readbackFails
  split
  · exact h
  · exact passCause_cueLaw .slotClash (h.of_eq rfl rfl)

theorem fileFrame_cueLaw (f : PeerFrame) (h : CueLaw s) : CueLaw (fileFrame f s) :=
  (absentStep_cueLaw f.number h).of_eq (by simp [fileFrame]) (by simp [fileFrame])

theorem receiveFrame_cueLaw (bytes : List Byte) (h : CueLaw s) : CueLaw (receiveFrame bytes s) := by
  have hlisten : CueLaw (setReceiver .listening s) := h.of_eq rfl rfl
  unfold receiveFrame
  dsimp only
  split
  · split
    · exact hlisten
    · split
      · exact hlisten
      · exact fileFrame_cueLaw _ hlisten
  · exact h

theorem seeFltLow_cueLaw (h : CueLaw s) : CueLaw (seeFltLow s) := by
  have hline : CueLaw (setFltLine false s) := h.of_eq rfl rfl
  unfold seeFltLow
  dsimp only
  split
  · exact passCause_cueLaw .groupFault hline
  · exact hline

theorem seeFltHigh_cueLaw (h : CueLaw s) : CueLaw (seeFltHigh s) :=
  judgeGate_cueLaw (recoverIfHigh_cueLaw (h.of_eq rfl rfl))

/-! ### Every step -/

theorem serve_cueLaw (k : State → State) (hk : ∀ {u}, CueLaw u → CueLaw (k u)) (h : CueLaw s)
    (he : serve k s = .next t) : CueLaw t :=
  serve_keeps (.of_eq · (openFrame_state s) (openFrame_cue s)) hk h he

/-- A frame that is served unless it is no such event. -/
theorem serveUnless_cueLaw {p : Prop} [Decidable p] (k : State → State) (hk : ∀ {u}, CueLaw u → CueLaw (k u))
    (h : CueLaw s) (hu : CueLaw u) (he : (if p then .next u else serve k s) = .next t) : CueLaw t := by
  split at he
  · exact next_keeps hu he
  · exact serve_cueLaw k hk h he

/-- A command without payload: a payload's refusal only replies. -/
theorem bare_cueLaw (p : List Byte) (k : State → State) (hk : CueLaw s → CueLaw (k s)) (h : CueLaw s) :
    CueLaw (bare p k s) := by
  unfold bare
  split
  · exact hk h
  · exact h.of_eq rfl rfl

theorem beforeCue_cueLaw (p : List Byte) (h : CueLaw s) : CueLaw (beforeCue p s) := by
  unfold beforeCue
  split
  · exact settleSample_cueLaw h
  · exact h

theorem exec_cueLaw (c : Instr) (h : CueLaw s) (he : exec c s = .next t) : CueLaw t := by
  cases c with
  | status p => exact serve_cueLaw _ (bare_cueLaw p takeStatus (.of_eq · rfl rfl)) h he
  | setup p => exact serve_cueLaw _ (takeSetup_cueLaw p) h he
  | hset p => exact serve_cueLaw _ (takeHset_cueLaw p) h he
  | cue p => exact serve_cueLaw _ (takeCue_cueLaw p) (beforeCue_cueLaw p h) he
  | flush p => exact serve_cueLaw _ (bare_cueLaw p _ takeFlush_cueLaw) h he
  | join p => exact serve_cueLaw _ (bare_cueLaw p _ takeJoin_cueLaw) h he
  | leave p => exact serve_cueLaw _ (bare_cueLaw p _ takeLeave_cueLaw) h he
  | arm p => exact serve_cueLaw _ (bare_cueLaw p _ takeArm_cueLaw) h he
  | disarm p => exact serve_cueLaw _ (bare_cueLaw p _ takeDisarm_cueLaw) h he
  | abort p => exact serve_cueLaw _ (bare_cueLaw p _ takeAbort_cueLaw) h he
  | clearFault p => exact serve_cueLaw _ (bare_cueLaw p _ takeClearFault_cueLaw) h he
  | take p => exact serve_cueLaw _ (takeRecords_cueLaw p) h he
  | clearLoss p => exact serve_cueLaw _ (bare_cueLaw p _ takeClearLoss_cueLaw) h he
  | peers p => exact serve_cueLaw _ (bare_cueLaw p takePeers (.of_eq · rfl rfl)) h he
  | alertSet p => exact serve_cueLaw _ (takeAlertSet_cueLaw p) h he
  | alertNext p => exact serve_cueLaw _ (bare_cueLaw p _ takeAlertNext_cueLaw) h he
  | alertDone p => exact serve_cueLaw _ (bare_cueLaw p _ takeAlertDone_cueLaw) h he
  | reset p => exact serve_cueLaw _ (bare_cueLaw p takeReset (.of_eq · rfl rfl)) h he
  | unknownCommand code p => exact serveUnless_cueLaw (answer .unknown []) (.of_eq · rfl rfl) h h he
  | badCheckFrame code p check => exact serveUnless_cueLaw (answer .badCheck []) (.of_eq · rfl rfl) h h he
  | lenAbove64 code len => exact serveUnless_cueLaw (answer .badLength []) (.of_eq · rfl rfl) h h he
  | commandCut edges =>
    exact serveUnless_cueLaw _ (.of_eq · (cutCommand_state _) (cutCommand_cue _)) h
      (h.of_eq (closeSpanOfCsn_state s) (closeSpanOfCsn_cue s)) he
  | replyCut => exact next_keeps (h.of_eq (by simp) (by simp)) he
  | replyComplete => exact next_keeps (completeReply_cueLaw h) he
  | commandReset => exact next_keeps (commandReset_cueLaw h) he
  | pinReset | powerOnReset => exact next_keeps (resetTo_cueLaw _ _) he
  | resetEnd id ph1 ph0 csnHigh => exact next_keeps (endReset_cueLaw _ _ _ h) he
  | sample => exact next_keeps (sampleStep_cueLaw h) he
  | peerFrameSent => exact next_keeps (frameSent_cueLaw h) he
  | readbackMismatch => exact next_keeps (readbackFails_cueLaw h) he
  | peerFrameReceived bytes => exact next_keeps (receiveFrame_cueLaw bytes h) he
  | epoch line => exact next_keeps (epochStep_cueLaw line h) he
  | lock => exact next_keeps (h.of_eq (lockStep_state s) (lockStep_cue s)) he
  | founder => exact next_keeps (h.of_eq (founderStep_state s) (founderStep_cue s)) he
  | peerAbsent n => exact next_keeps (absentStep_cueLaw n h) he
  | shareImbalance n => exact next_keeps (h.of_eq (shareStep_state s n) (shareStep_cue s n)) he
  | syncPullEnd => exact next_keeps (h.of_eq (endPull_state s) (endPull_cue s)) he
  | syncFallNoted whole num den => exact next_keeps (h.of_eq (noteFall_state s _) (noteFall_cue s _)) he
  | gateTimeout => exact next_keeps (timeoutStep_cueLaw h) he
  | tagMismatch n => exact next_keeps (tagStep_cueLaw n h) he
  | tkGateChange high => exact next_keeps (u := { s with lines := { s.lines with gateHigh := high } }) (h.of_eq rfl rfl) he
  | gateOpening => exact next_keeps (seeOpening_cueLaw h) he
  | gatePulseEnd => exact next_keeps (h.of_eq (endPulse_state s) (endPulse_cue s)) he
  | cueStart => exact next_keeps (startCue_cueLaw h) he
  | cueCompletion => exact next_keeps (completionRow_cueLaw h) he
  | rampEnd => exact next_keeps (h.of_frame endRamp_frame) he
  | flickerBoundary => exact next_keeps (u := armFlicker s) (h.of_eq rfl rfl) he
  | flickerChange => exact next_keeps (h.of_frame changeFlicker_frame) he
  | stopCompletion => exact next_keeps (completeStop_cueLaw h) he
  | pendingTransitionClose =>
    refine next_keeps ?_ he
    split
    · exact h.of_eq (by simp) (by simp)
    · exact h
  | decimatorResult channel bits => exact next_keeps (h.of_eq (decimate_state s _ _) (decimate_cue s _ _)) he
  | clampEnd => exact next_keeps (h.of_eq (endClamp_state s) (endClamp_cue s)) he
  | overload => exact next_keeps (passOverload_cueLaw h) he
  | outOfTolerance => exact next_keeps (passTolerance_cueLaw h) he
  | tkFltFall => exact next_keeps (seeFltLow_cueLaw h) he
  | tkFltRise => exact next_keeps (seeFltHigh_cueLaw h) he
  | faultRecord => exact next_keeps (h.of_eq (recordStep_state s) (recordStep_cue s)) he
  | receiverAbandonsFrame =>
    refine next_keeps ?_ he
    split
    · exact h.of_eq rfl rfl
    · exact h
  | csnHighSeen => exact next_keeps (h.of_eq (watchCsn_state s) (watchCsn_cue s)) he

/-- Settles O53: every command's operations keep the law, on the reading of state, queue, counters and active cue. -/
theorem queueAndCountersKept : Obligations.QueueAndCountersKept :=
  keeps_of_exec (fun _ _ h => h) (fun c _ _ h he => exec_cueLaw c h he)

end Sys2Proof.Proofs
end

section
/-! The cue record and its payload: the payload that spells sixteen fields is read back as those fields (R193), and the
tests of R4 judge them field by field. -/

namespace Sys2Proof.Proofs

open Sys2Proof Sys2Proof.Machine Sys2Proof.Laws Sys2Proof.Claims

/-! ### The presence mask -/

theorem maskOf_succ (i : Nat) (fs : List (Option Nat)) : maskOf (i + 1) fs = 2 * maskOf i fs := by
  induction fs generalizing i with
  | nil => rfl
  | cons f fs ih =>
    simp only [maskOf, ih (i + 1), Nat.pow_succ]
    split <;> omega

theorem maskOf_cons (f : Option Nat) (fs : List (Option Nat)) :
    maskOf 0 (f :: fs) = f.isSome.toNat + 2 * maskOf 0 fs := by
  rw [maskOf, maskOf_succ]
  cases f <;> rfl

theorem maskOf_lt (fs : List (Option Nat)) : maskOf 0 fs < 2 ^ fs.length := by
  induction fs with
  | nil => decide
  | cons f fs ih =>
    rw [maskOf_cons, List.length_cons, Nat.pow_succ]
    have := f.isSome.toNat_le
    omega

/-- R193: bit `k` of the mask marks field `k`. -/
theorem testBit_maskOf (fs : List (Option Nat)) (k : Nat) : (maskOf 0 fs).testBit k = (rawAt fs k).isSome := by
  induction fs generalizing k with
  | nil => simp [maskOf, rawAt]
  | cons f fs ih =>
    rw [maskOf_cons]
    cases k with
    | zero => cases f <;> simp [Nat.testBit_zero, rawAt, Nat.add_mod]
    | succ k =>
      have hdiv : (f.isSome.toNat + 2 * maskOf 0 fs) / 2 = maskOf 0 fs := by
        have := f.isSome.toNat_le
        omega
      rw [Nat.testBit_succ, hdiv, ih]
      rfl

/-! ### The bytes of the fields -/

theorem fieldSize_cases {i : Nat} (h : i < 16) : fieldSize i = 1 ∨ fieldSize i = 2 := by
  have hall : ∀ j : Fin 16, fieldSize j = 1 ∨ fieldSize j = 2 := by decide
  exact hall ⟨i, h⟩

theorem fieldBytes_length {i : Nat} (h : i < 16) (v : Nat) : (fieldBytes (fieldSize i) (some v)).length = fieldSize i := by
  rcases fieldSize_cases h with e | e <;> rw [e] <;> rfl

theorem be_fieldBytes {i : Nat} (h : i < 16) {v : Nat} (hv : v < 256 ^ fieldSize i) :
    be (fieldBytes (fieldSize i) (some v)) = v := by
  rcases fieldSize_cases h with e | e <;> rw [e] at hv ⊢
  · exact be_u8 v hv
  · exact be_u16 v hv

/-- What a reader of the fields from index `i` on needs: a mask that marks the present ones, and numbers that fit. -/
structure Spelled (mask i : Nat) (fs : List (Option Nat)) : Prop where
  inside : i + fs.length ≤ 16
  marked : ∀ k, k < fs.length → mask.testBit (i + k) = (rawAt fs k).isSome
  fits : ∀ k v, rawAt fs k = some v → v < 256 ^ fieldSize (i + k)

theorem Spelled.tail {mask i : Nat} {f : Option Nat} {fs : List (Option Nat)} (h : Spelled mask i (f :: fs)) :
    Spelled mask (i + 1) fs where
  inside := by simpa [Nat.add_assoc, Nat.add_comm 1] using h.inside
  marked k hk := by simpa [rawAt, Nat.add_assoc, Nat.add_comm 1] using h.marked (k + 1) (by simpa using hk)
  fits k v hv := by simpa [Nat.add_assoc, Nat.add_comm 1] using h.fits (k + 1) v hv

theorem markedSize_range {mask i : Nat} {fs : List (Option Nat)} (h : Spelled mask i fs) :
    markedSize mask (List.range' i fs.length) = (rawBytes i fs).length := by
  induction fs generalizing i with
  | nil => rfl
  | cons f fs ih =>
    have hbit : mask.testBit i = f.isSome := h.marked 0 (by simp)
    have hi : i < 16 := by have := h.inside; simp at this; omega
    rw [List.length_cons, List.range'_succ, markedSize, rawBytes, ih h.tail, hbit, List.length_append]
    cases f with
    | none => rfl
    | some v => rw [fieldBytes_length hi]; rfl

theorem rawFields_range {mask i : Nat} {fs : List (Option Nat)} (h : Spelled mask i fs) :
    rawFields mask (List.range' i fs.length) (rawBytes i fs) = fs := by
  induction fs generalizing i with
  | nil => rfl
  | cons f fs ih =>
    have hbit : mask.testBit i = f.isSome := h.marked 0 (by simp)
    have hi : i < 16 := by have := h.inside; simp at this; omega
    rw [List.length_cons, List.range'_succ, rawFields, rawBytes, hbit]
    cases f with
    | none => simpa [fieldBytes] using ih h.tail
    | some v =>
      have hlen := fieldBytes_length hi v
      have hv : v < 256 ^ fieldSize i := h.fits 0 v rfl
      rw [List.take_left' hlen, List.drop_left' hlen, be_fieldBytes hi hv, ih h.tail]
      rfl

theorem spelled_of_fieldsFit {raw : List (Option Nat)} (h : fieldsFit raw) : Spelled (maskOf 0 raw) 0 raw := by
  obtain ⟨hlen, hfits⟩ := h
  exact ⟨by omega, fun k _ => by rw [Nat.zero_add, testBit_maskOf], fun k v hv => by rw [Nat.zero_add]; exact hfits k v hv⟩

/-- R193: the payload that spells sixteen fields is judged by those fields. -/
theorem parseCue_recordPayload (sets : List HarmonicSet) {raw : List (Option Nat)} (h : fieldsFit raw) :
    parseCue sets (recordPayload raw) = judgeRaw sets raw := by
  have hspell := spelled_of_fieldsFit h
  obtain ⟨hlen, -⟩ := h
  have hindices : fieldIndices = List.range' 0 raw.length := by rw [hlen]; rfl
  have hmask : be (u16 (maskOf 0 raw)) = maskOf 0 raw :=
    be_u16 _ (by have := maskOf_lt raw; rw [hlen] at this; exact this)
  have htake : (recordPayload raw).take 2 = u16 (maskOf 0 raw) := List.take_left' rfl
  have hdrop : (recordPayload raw).drop 2 = rawBytes 0 raw := List.drop_left' rfl
  have hsize : (recordPayload raw).length = 2 + (rawBytes 0 raw).length := by simp [recordPayload]
  simp only [parseCue, htake, hdrop, hmask, hindices, markedSize_range hspell, rawFields_range hspell, hsize]
  rw [if_neg (by omega), if_neg (by simp)]

/-! ### The tests of a field -/

/-- The fields whose rules depend on the kind (R4). -/
theorem index_cases {i : Nat} (h2 : 2 ≤ i) (h : i < 16) : i = 2 ∨ i = 3 ∨ i = 4 ∨ i = 5 ∨ i = 6 ∨ i = 7 ∨ i = 8 ∨ i = 9 ∨
    i = 10 ∨ i = 11 ∨ i = 12 ∨ i = 13 ∨ i = 14 ∨ i = 15 := by omega

/-- The sixteen fields. -/
theorem field_cases {i : Nat} (h : i < 16) : i = 0 ∨ i = 1 ∨ i = 2 ∨ i = 3 ∨ i = 4 ∨ i = 5 ∨ i = 6 ∨ i = 7 ∨ i = 8 ∨ i = 9 ∨
    i = 10 ∨ i = 11 ∨ i = 12 ∨ i = 13 ∨ i = 14 ∨ i = 15 := by omega

theorem presenceOf_plain {k : CueKind} {raw : List (Option Nat)} {i : Nat} (h4 : i ≠ 4) :
    presenceOf k raw i = presence k i := by
  rw [presenceOf, if_neg h4]

/-- R3: the angle reference follows the start angle. -/
theorem presenceOf_reference {k : CueKind} {raw : List (Option Nat)} :
    presenceOf k raw 4 = if (rawAt raw 3).isSome then .required else .forbidden := by
  rw [presenceOf, if_pos rfl]

theorem presenceOf_required {k : CueKind} {raw : List (Option Nat)} {i : Nat} (h2 : 2 ≤ i) (h : i < 16) :
    presenceOf k raw i = .required ↔ mustCarry k (rawAt raw 3).isSome i := by
  by_cases h4 : i = 4
  · subst h4
    cases h3 : rawAt raw 3 <;> simp [presenceOf_reference, mustCarry, h3]
  · rw [presenceOf_plain h4]
    rcases index_cases h2 h with rfl | rfl | rfl | rfl | rfl | rfl | rfl | rfl | rfl | rfl | rfl | rfl | rfl | rfl <;>
      simp only [presence, mustCarry, ne_eq, not_true_eq_false] at h4 ⊢ <;> cases k <;> simp

theorem presenceOf_forbidden {k : CueKind} {raw : List (Option Nat)} {i : Nat} (h2 : 2 ≤ i) (h : i < 16) :
    presenceOf k raw i = .forbidden ↔ mustLack k (rawAt raw 3).isSome i := by
  by_cases h4 : i = 4
  · subst h4
    cases h3 : rawAt raw 3 <;> simp [presenceOf_reference, mustLack, h3]
  · rw [presenceOf_plain h4]
    rcases index_cases h2 h with rfl | rfl | rfl | rfl | rfl | rfl | rfl | rfl | rfl | rfl | rfl | rfl | rfl | rfl <;>
      simp only [presence, mustCarry, mustLack, ne_eq, not_true_eq_false] at h4 ⊢ <;> cases k <;> simp

theorem signed16_range {v : Nat} (hv : v < 65536) : (-1800 ≤ signed16 v ∧ signed16 v ≤ 1800) ↔ (v ≤ 1800 ∨ 63736 ≤ v) := by
  unfold signed16
  split <;> omega

/-- R2, R5, R6: the tests of a present field together. -/
theorem mayHold_iff {sets : List HarmonicSet} {k : CueKind} {raw : List (Option Nat)} {i v : Nat} (h2 : 2 ≤ i) (h : i < 16)
    (hv : v < 256 ^ fieldSize i) :
    (!inRange i v || furtherFault sets k raw i v) = false ↔ mayHold sets k (rawAt raw 7) i v := by
  have hindex : i = 2 ∨ i = 14 ∨ i = 8 ∨ i = 9 ∨ i = 12 ∨ i = 3 ∨ i = 4 ∨ i = 5 ∨ i = 6 ∨ i = 7 ∨ i = 10 ∨ i = 11 ∨ i = 13 ∨
      i = 15 := by omega
  rw [Bool.or_eq_false_iff, Bool.not_eq_false']
  rcases hindex with rfl | rfl | rfl | rfl | rfl | hindex
  · simp only [inRange, furtherFault, mayHold, decide_eq_true_eq, decide_eq_false_iff_not]
    grind
  · simp only [inRange, furtherFault, mayHold, decide_eq_true_eq, decide_eq_false_iff_not]
    grind
  · cases h7 : rawAt raw 7 <;> simp [inRange, furtherFault, mayHold, h7]
  · simpa [inRange, furtherFault, mayHold] using signed16_range hv
  · have hne : v = 255 → ¬ v ≤ 7 := by omega
    simp only [inRange, furtherFault, mayHold, setEmpty, decide_eq_true_eq, Bool.and_eq_false_imp, List.isEmpty_eq_false_iff]
    grind
  · rcases hindex with rfl | rfl | rfl | rfl | rfl | rfl | rfl | rfl | rfl <;> simp [inRange, furtherFault, mayHold]

variable {sets : List HarmonicSet} {k : CueKind} {raw : List (Option Nat)} {i : Nat}

/-- R4: a required field that is absent. -/
theorem fieldFault_missing (h2 : 2 ≤ i) (h : i < 16) (hc : mustCarry k (rawAt raw 3).isSome i) (hn : rawAt raw i = none) :
    fieldFault sets k raw i = some (missingField i) := by
  rw [fieldFault, (presenceOf_required h2 h).mpr hc, hn]

/-- R4: a forbidden field that is present. -/
theorem fieldFault_forbidden (h2 : 2 ≤ i) (h : i < 16) (hl : mustLack k (rawAt raw 3).isSome i)
    (hn : rawAt raw i ≠ none) : fieldFault sets k raw i = some (badField i) := by
  obtain ⟨v, hv⟩ := Option.ne_none_iff_exists'.mp hn
  rw [fieldFault, (presenceOf_forbidden h2 h).mpr hl, hv]

/-- R4: a present field whose value is no value for it, whether or not it may be present. -/
theorem fieldFault_value (h2 : 2 ≤ i) (h : i < 16) (hfit : fieldsFit raw) {v : Nat} (hv : rawAt raw i = some v)
    (hm : ¬ mayHold sets k (rawAt raw 7) i v) : fieldFault sets k raw i = some (badField i) := by
  obtain ⟨-, hfits⟩ := hfit
  have htest : (!inRange i v || furtherFault sets k raw i v) = true := by
    rw [← Bool.not_eq_false, mayHold_iff h2 h (hfits i v hv)]; exact hm
  rw [fieldFault, hv]
  cases presenceOf k raw i <;> simp only [htest, if_true]

/-- R4: a field that passes its tests is no fault. -/
theorem fieldFault_passes (h2 : 2 ≤ i) (h : i < 16) (hfit : fieldsFit raw) (hp : fieldPasses sets k raw i) :
    fieldFault sets k raw i = none := by
  obtain ⟨hcarry, hlack, hhold⟩ := hp
  obtain ⟨-, hfits⟩ := hfit
  cases hv : rawAt raw i with
  | none =>
    have hreq : presenceOf k raw i ≠ .required := fun e => hcarry ((presenceOf_required h2 h).mp e) hv
    rw [fieldFault, hv]
    cases hpres : presenceOf k raw i with
    | required => exact absurd hpres hreq
    | optional | forbidden => rfl
  | some v =>
    have hforb : presenceOf k raw i ≠ .forbidden := fun e => by
      rw [hlack ((presenceOf_forbidden h2 h).mp e)] at hv; cases hv
    have htest := (mayHold_iff (k := k) (raw := raw) h2 h (hfits i v hv)).mpr (hhold v hv)
    rw [fieldFault, hv]
    cases hpres : presenceOf k raw i with
    | forbidden => exact absurd hpres hforb
    | optional | required => simp only [htest, Bool.false_eq_true, if_false]

theorem ofCode_code (k : CueKind) : CueKind.ofCode k.code = some k := by cases k <;> rfl

theorem ofCode_above {n : Nat} (h : 7 < n) : CueKind.ofCode n = none := by
  match n, h with
  | n + 8, _ => rfl

/-- R4: the tests of tag and kind leave no fault of index 0 or 1. -/
theorem fieldFault_first {tag : Nat} (htag : rawAt raw 0 = some tag) (hle : tag ≤ 65534) (hk : rawAt raw 1 = some k.code)
    (h : i < 2) : fieldFault sets k raw i = none := by
  obtain rfl | rfl : i = 0 ∨ i = 1 := by omega
  · simp [fieldFault, presenceOf, presence, htag, inRange, furtherFault, hle]
  · cases k <;> simp [fieldFault, presenceOf, presence, hk, CueKind.code, inRange, furtherFault]

/-- R4: the first field that fails is named. -/
theorem judgeRaw_error {tag : Nat} {r : Refused} (htag : rawAt raw 0 = some tag) (hle : tag ≤ 65534)
    (hk : rawAt raw 1 = some k.code) (h : i < 16) (hr : fieldFault sets k raw i = some r)
    (hbefore : ∀ j, 2 ≤ j → j < i → fieldFault sets k raw j = none) : judgeRaw sets raw = .error r := by
  have hin : inRange 0 tag = true := by simpa [inRange] using hle
  have hfirst : fieldIndices.findSome? (fieldFault sets k raw) = some r := by
    have hsplit : fieldIndices = List.range i ++ i :: List.range' (i + 1) (15 - i) := by
      have hall : ∀ j : Fin 16, fieldIndices = List.range j.val ++ j.val :: List.range' (j + 1) (15 - j) := by
        decide
      exact hall ⟨i, h⟩
    refine List.findSome?_eq_some_iff.mpr ⟨_, i, _, hsplit, hr, fun j hj => ?_⟩
    by_cases h2 : 2 ≤ j
    · exact hbefore j h2 (List.mem_range.mp hj)
    · exact fieldFault_first htag hle hk (by omega)
  simp only [judgeRaw, htag, hin, hk, ofCode_code, hfirst, Bool.not_true, Bool.false_eq_true, if_false]

/-- R4: a record all of whose fields pass is the cue it spells. -/
theorem judgeRaw_ok {tag : Nat} (htag : rawAt raw 0 = some tag) (hle : tag ≤ 65534) (hk : rawAt raw 1 = some k.code)
    (hall : ∀ j, 2 ≤ j → j < 16 → fieldFault sets k raw j = none) : judgeRaw sets raw = .ok (buildCue k raw) := by
  have hin : inRange 0 tag = true := by simpa [inRange] using hle
  have hnone : fieldIndices.findSome? (fieldFault sets k raw) = none := by
    refine List.findSome?_eq_none_iff.mpr fun j hj => ?_
    have hlt : j < 16 := List.mem_range.mp (show j ∈ List.range 16 from hj)
    by_cases h2 : 2 ≤ j
    · exact hall j h2 hlt
    · exact fieldFault_first htag hle hk (by omega)
  simp only [judgeRaw, htag, hin, hk, ofCode_code, hnone, Bool.not_true, Bool.false_eq_true, if_false]

/-! ### The fields of a valid record -/

theorem kind_code_le (k : CueKind) : k.code ≤ 7 := by cases k <;> decide

theorem gate_code_eq (g : CueGate) : g.code = if g = .group then 0 else 1 := by cases g <;> rfl

theorem angleRef_code_le (r : AngleRef) : r.code ≤ 1 := by cases r <;> decide

theorem switchMode_code_le (m : SwitchMode) : m.code ≤ 1 := by cases m <;> decide

theorem check_code_eq (b : Bool) : b.toNat = if b then 1 else 0 := by cases b <;> rfl

/-- R2, R6: the number of a valid record's harmonic set is 255, or that of a set with entries. -/
theorem validCue_set_code {c : Cue} (h : validCue sets c) (a : SetName) (ha : c.harmonicSet = some a) :
    a.code = 255 ∨ (a.code ≤ 7 ∧ (sets.getD a.code {}).entries ≠ []) := by
  obtain ⟨-, -, -, -, -, -, -, -, -, -, -, -, -, -, -, -, hheld, -⟩ := h
  cases a with
  | none => exact .inl rfl
  | set n => exact .inr (hheld n ha)

theorem validCue_fieldsFit {c : Cue} (h : validCue sets c) : fieldsFit c.raw := by
  have hset := validCue_set_code h
  obtain ⟨htag, -, -, hangle, -, -, hamp, ⟨-, hamp2⟩, ⟨-, hdur⟩, ⟨-, hramp⟩, -, -, -, ⟨-, hfreq⟩, ⟨-, hrate⟩, -, -, -, -,
    htol⟩ := h
  refine ⟨rfl, fun i v hv => ?_⟩
  by_cases hi : i < 16
  · rcases field_cases hi with rfl | rfl | rfl | rfl | rfl | rfl | rfl | rfl | rfl | rfl | rfl | rfl | rfl | rfl | rfl | rfl <;>
      simp only [Cue.raw, rawAt, fieldSize, List.getD_cons_zero, List.getD_cons_succ, Option.map_eq_some_iff] at hv ⊢
    all_goals grind [kind_code_le, gate_code_eq, angleRef_code_le, switchMode_code_le, check_code_eq]
  · rw [rawAt, List.getD_eq_getElem?_getD, List.getElem?_eq_none (Nat.le_of_not_lt hi)] at hv
    cases hv

/-- R4: each field of a valid record passes its tests. -/
theorem validCue_fieldPasses {c : Cue} (h : validCue sets c) (h2 : 2 ≤ i) (hi : i < 16) :
    fieldPasses sets c.kind c.raw i := by
  have hset := validCue_set_code h
  obtain ⟨-, hgroup, href, hangle, hampReq, hampEnd, hamp, ⟨hasAmp2, hamp2⟩, ⟨hasDur, -⟩, ⟨hasRamp, hramp⟩, hlong, hasDelta,
    hdelta, ⟨hasFreq, hfreq⟩, ⟨hasRate, hrate⟩, hasSet, -, hasMode, hcheck, htol⟩ := h
  have hrefNone : c.startAngle.isSome = false → c.angleRef = none := fun e =>
    Option.isNone_iff_eq_none.mp (Option.isSome_eq_false_iff.mp (href ▸ e))
  have hrefSome : c.startAngle.isSome = true → c.angleRef ≠ none := fun e =>
    Option.isSome_iff_ne_none.mp (href ▸ e)
  simp only [Option.isSome_iff_ne_none] at hampReq hasAmp2 hasDur hasRamp hasDelta hasFreq hasRate hasSet hasMode
  rcases index_cases h2 hi with rfl | rfl | rfl | rfl | rfl | rfl | rfl | rfl | rfl | rfl | rfl | rfl | rfl | rfl <;>
    simp only [fieldPasses, mustCarry, mustLack, mayHold, Cue.raw, rawAt, List.getD_cons_zero, List.getD_cons_succ, ne_eq,
      Option.map_eq_some_iff, Option.map_eq_none_iff]
  all_goals grind [gate_code_eq, angleRef_code_le, switchMode_code_le, check_code_eq]

theorem signed16_code {d : Int} (h : -1800 ≤ d ∧ d ≤ 1800) : signed16 (d % 65536).toNat = d := by
  unfold signed16
  split <;> omega

theorem buildCue_raw {c : Cue} (h : validCue sets c) : buildCue c.kind c.raw = c := by
  obtain ⟨-, -, -, -, -, -, -, -, -, -, -, -, hdelta, -, -, -, hheld, -⟩ := h
  have hgate : (if some c.gate.code = some 1 then CueGate.localCue else .group) = c.gate := by cases c.gate <;> rfl
  have href : (c.angleRef.map AngleRef.code).map (fun v => if v = 1 then AngleRef.system else .own) = c.angleRef := by
    rcases c.angleRef with - | - | - <;> rfl
  have hmode : (c.switchMode.map SwitchMode.code).map (fun v => if v = 1 then SwitchMode.lowZ else .highZ) = c.switchMode := by
    rcases c.switchMode with - | - | - <;> rfl
  have hphase : (c.phaseDelta.map (fun d => (d % 65536).toNat)).map signed16 = c.phaseDelta := by
    cases hd : c.phaseDelta with
    | none => rfl
    | some d => simp [signed16_code (hdelta d hd)]
  have hset : (c.harmonicSet.map SetName.code).map (fun v => if v = 255 then SetName.none else .set v) = c.harmonicSet := by
    rcases hs : c.harmonicSet with - | - | n
    · rfl
    · rfl
    · have hn : n ≠ 255 := by have := (hheld n hs).1; omega
      simp [SetName.code, hn]
  have hcheck : decide (some c.check.toNat = some 1) = c.check := by cases c.check <;> rfl
  calc buildCue c.kind c.raw = { c with
        gate := if some c.gate.code = some 1 then .localCue else .group
        angleRef := (c.angleRef.map AngleRef.code).map (fun v => if v = 1 then .system else .own)
        phaseDelta := (c.phaseDelta.map (fun d => (d % 65536).toNat)).map signed16
        harmonicSet := (c.harmonicSet.map SetName.code).map (fun v => if v = 255 then .none else .set v)
        switchMode := (c.switchMode.map SwitchMode.code).map (fun v => if v = 1 then .lowZ else .highZ)
        check := decide (some c.check.toNat = some 1) } := rfl
    _ = c := by rw [hgate, href, hphase, hset, hmode, hcheck]

theorem parseCue_valid {c : Cue} (h : validCue sets c) : parseCue sets c.payload = .ok c := by
  have hfit := validCue_fieldsFit h
  have htag : c.tag ≤ 65534 := h.1
  rw [show c.payload = recordPayload c.raw from rfl, parseCue_recordPayload sets hfit,
    judgeRaw_ok (k := c.kind) rfl htag rfl fun j h2 hj => fieldFault_passes h2 hj hfit (validCue_fieldPasses h h2 hj),
    buildCue_raw h]

/-- Settles O11: the payload is read back as the fields it spells, the fields of a valid record pass their tests, and they
make up that record. -/
theorem cuePayloadRoundTrip : Obligations.CuePayloadRoundTrip := fun _ _ h => parseCue_valid h

end Sys2Proof.Proofs
end

section
/-! The commands CUE and FLUSH: acceptance, refusals, the flushed queue (R1, R4, R7, R8, R12). -/

namespace Sys2Proof.Proofs

open Sys2Proof Sys2Proof.Machine Sys2Proof.Laws Sys2Proof.Claims

variable {s t : State} {c : Cue} {p : List Byte}

/-! ### CUE as taken -/

theorem cueAllowed_iff : cueAllowed s.state = true ↔ s.state ≠ .fault ∧ s.state ≠ .recover := by
  cases s.state <;> simp [cueAllowed]

theorem takeCue_off (h : s.state = .fault ∨ s.state = .recover) : takeCue p s = answer .state [] s := by
  have hoff : cueAllowed s.state = false := by rcases h with h | h <;> rw [h] <;> rfl
  simp [takeCue, hoff]

theorem takeCue_error (hs : cueAllowed s.state = true) {r : Refused} (hp : parseCue s.synth.sets p = .error r) :
    takeCue p s = answer r.1 r.2 s := by
  simp [takeCue, hs, hp, refuse]

theorem takeCue_full (hs : cueAllowed s.state = true) (hp : parseCue s.synth.sets p = .ok c)
    (hfull : 32 ≤ s.cue.queue.length) : takeCue p s = answer .full [] s := by
  simp [takeCue, hs, hp, Config.queueCapacity, hfull]

theorem takeCue_room (hs : cueAllowed s.state = true) (hp : parseCue s.synth.sets p = .ok c)
    (hroom : s.cue.queue.length < 32) : takeCue p s =
      afterAppend s.cue.queue.isEmpty c (answer .ok (u8 (s.cue.queue.length + 1)) (appendCue c s)) := by
  simp [takeCue, hs, hp, Config.queueCapacity, Nat.not_le.mpr hroom]

/-- R20: unless the cue starts a free and empty station in RUN, an append is followed by the judgement of readiness. -/
theorem afterAppend_waits {b : Bool} (h : ¬(s.state = .run ∧ isFree s = true ∧ b = true ∧ c.gate = .localCue)) :
    afterAppend b c s = judgeGate s := by
  rw [afterAppend, if_neg h]

/-! ### What comes before a CUE -/

theorem spellsStep_error {sets : List HarmonicSet} {r : Refused} (hp : parseCue sets p = .error r) :
    spellsStep sets p = false := by
  simp [spellsStep, hp]

theorem spellsStep_ok {sets : List HarmonicSet} (hp : parseCue sets p = .ok c) :
    spellsStep sets p = true ↔ c.kind = .phase ∧ c.gate = .localCue := by
  simp [spellsStep, hp]

/-- Log 36: what `takenBehind` asks for. -/
theorem takenBehind_iff : takenBehind p s = true ↔ s.hears = true ∧ s.state = .run ∧ s.cue.queue.length < 32 ∧
    (completionDue s = true ∨ startDue s = true) ∧ spellsStep s.synth.sets p = true := by
  have hcap : Config.queueCapacity = 32 := rfl
  simp [takenBehind, chainDue, hcap, and_assoc]

theorem takenBehind_comesLate (hh : s.hears = true) (hp : parseCue s.synth.sets p = .ok c)
    (hroom : s.cue.queue.length < 32) : takenBehind p s = true ↔ comesLate c s := by
  rw [takenBehind_iff, spellsStep_ok hp, comesLate]
  exact ⟨fun ⟨_, hrun, _, hdue, hkind, hgate⟩ => ⟨hrun, hkind, hgate, hdue⟩,
    fun ⟨hrun, hkind, hgate, hdue⟩ => ⟨hh, hrun, hroom, hdue, hkind, hgate⟩⟩

theorem exec_cue_at_once (hh : s.hears = true) (hb : ¬ takenBehind p s = true) :
    exec (.cue p) s = .next (takeCue p (openFrame s)) := by
  have hbefore : beforeCue p s = s := by rw [beforeCue, if_neg hb]
  have hexec : exec (.cue p) s = serve (takeCue p) (beforeCue p s) := rfl
  rw [hexec, hbefore, serve_heard s _ hh]

theorem exec_cue_behind (hb : takenBehind p s = true) :
    exec (.cue p) s = serve (takeCue p) (settleSample s) := by
  have hbefore : beforeCue p s = settleSample s := by rw [beforeCue, if_pos hb]
  rw [← hbefore]; rfl

/-! ### Refusals -/

theorem exec_cue_off (hh : s.hears = true) (h : s.state = .fault ∨ s.state = .recover) :
    exec (.cue p) s = .next (replied .state [] s) := by
  have hb : ¬ takenBehind p s = true := by
    rw [takenBehind_iff]
    rintro ⟨-, hr, -⟩
    rcases h with h | h <;> rw [hr] at h <;> cases h
  rw [exec_cue_at_once hh hb, takeCue_off (by rwa [openFrame_state]), answer_openFrame]

/-- R4: a record that fails a test is refused, and only the reply comes of it. -/
theorem exec_cue_error (hh : s.hears = true) (hf : s.state ≠ .fault) (hr : s.state ≠ .recover) {r : Refused}
    (hp : parseCue s.synth.sets p = .error r) : exec (.cue p) s = .next (replied r.1 r.2 s) := by
  have hb : ¬ takenBehind p s = true := by
    rw [takenBehind_iff, spellsStep_error hp]
    simp
  have hs : cueAllowed (openFrame s).state = true := by rw [openFrame_state, cueAllowed_iff]; exact ⟨hf, hr⟩
  rw [exec_cue_at_once hh hb, takeCue_error hs (by rwa [openFrame_synth]), answer_openFrame]

theorem exec_cue_full (hh : s.hears = true) (hf : s.state ≠ .fault) (hr : s.state ≠ .recover)
    (hp : parseCue s.synth.sets p = .ok c) (hfull : 32 ≤ s.cue.queue.length) :
    exec (.cue p) s = .next (replied .full [] s) := by
  have hb : ¬ takenBehind p s = true := by
    rw [takenBehind_iff]
    rintro ⟨-, -, hlt, -⟩
    omega
  have hs : cueAllowed (openFrame s).state = true := by rw [openFrame_state, cueAllowed_iff]; exact ⟨hf, hr⟩
  rw [exec_cue_at_once hh hb, takeCue_full hs (by rwa [openFrame_synth]) (by rwa [openFrame_cue]), answer_openFrame]

/-! ### Faults of a record -/

section Faults

variable {sets : List HarmonicSet} {raw : List (Option Nat)} {k : CueKind} {i : Nat}

theorem parseCue_length (h : p.length < 2 ∨ p.length ≠ 2 + markedSize (be (p.take 2)) fieldIndices) :
    parseCue sets p = .error (badField 16) := by
  by_cases h2 : p.length < 2
  · simp [parseCue, h2]
  · have hne := h.resolve_left h2
    simp [parseCue, h2, hne]

theorem parseCue_noTag (hfit : fieldsFit raw) (h0 : rawAt raw 0 = none) :
    parseCue sets (recordPayload raw) = .error (missingField 0) := by
  simp [parseCue_recordPayload sets hfit, judgeRaw, h0]

theorem parseCue_tagNone (hfit : fieldsFit raw) (h0 : rawAt raw 0 = some 65535) :
    parseCue sets (recordPayload raw) = .error (badField 0) := by
  simp [parseCue_recordPayload sets hfit, judgeRaw, h0, inRange]

theorem parseCue_noKind (hfit : fieldsFit raw) {tag : Nat} (h0 : rawAt raw 0 = some tag) (hle : tag ≤ 65534)
    (h1 : rawAt raw 1 = none) : parseCue sets (recordPayload raw) = .error (missingField 1) := by
  simp [parseCue_recordPayload sets hfit, judgeRaw, h0, inRange, hle, h1]

theorem parseCue_kindAbove (hfit : fieldsFit raw) {tag kind : Nat} (h0 : rawAt raw 0 = some tag) (hle : tag ≤ 65534)
    (h1 : rawAt raw 1 = some kind) (hk : 7 < kind) : parseCue sets (recordPayload raw) = .error (badField 1) := by
  simp [parseCue_recordPayload sets hfit, judgeRaw, h0, inRange, hle, h1, ofCode_above hk]

/-- R4: from index 2 on the first field that fails is named. -/
theorem parseCue_field (hfit : fieldsFit raw) {tag : Nat} {r : Refused} (h0 : rawAt raw 0 = some tag) (hle : tag ≤ 65534)
    (h1 : rawAt raw 1 = some k.code) (hi : i < 16) (hbefore : ∀ j, 2 ≤ j → j < i → fieldPasses sets k raw j)
    (hr : fieldFault sets k raw i = some r) : parseCue sets (recordPayload raw) = .error r := by
  rw [parseCue_recordPayload sets hfit]
  exact judgeRaw_error h0 hle h1 hi hr fun j h2 hj => fieldFault_passes h2 (by omega) hfit (hbefore j h2 hj)

/-- R6: a harmonic set without entries is the fault of index 12 of a record that is valid otherwise. -/
theorem parseCue_emptySet {n : Nat} (h : validCue sets { c with harmonicSet := some .none }) (hn : n ≤ 7)
    (hempty : (sets.getD n {}).entries = []) :
    parseCue sets ({ c with harmonicSet := some (.set n) } : Cue).payload = .error (badField 12) := by
  have hraw : ({ c with harmonicSet := some (.set n) } : Cue).raw =
      ({ c with harmonicSet := some .none } : Cue).raw.set 12 (some n) := rfl
  have hrest : ∀ j, j ≠ 12 → rawAt ({ c with harmonicSet := some (.set n) } : Cue).raw j =
      rawAt ({ c with harmonicSet := some .none } : Cue).raw j := by
    intro j hj
    rw [hraw, rawAt, rawAt, List.getD_eq_getElem?_getD, List.getD_eq_getElem?_getD,
      List.getElem?_set_ne (Ne.symm hj)]
  have hfit : fieldsFit ({ c with harmonicSet := some (.set n) } : Cue).raw := by
    obtain ⟨-, hfits⟩ := validCue_fieldsFit h
    refine ⟨rfl, fun j v hv => ?_⟩
    by_cases hj : j = 12
    · subst hj
      cases hv
      exact Nat.lt_of_le_of_lt hn (by decide)
    · exact hfits j v (by rwa [← hrest j hj])
  have htag : c.tag ≤ 65534 := h.1
  refine parseCue_field (i := 12) (k := c.kind) hfit rfl htag rfl (by decide) (fun j h2 hj => ?_)
    (fieldFault_value (by decide) (by decide) hfit (v := n) rfl ?_)
  · have hpass := validCue_fieldPasses h h2 (by omega)
    rw [fieldPasses, hrest j (by omega), hrest 3 (by decide), hrest 7 (by decide)]
    exact hpass
  · rintro (h255 | ⟨-, hne⟩)
    · omega
    · exact hne hempty

end Faults

/-- Settles O14: each refusal by the fault that `parseCue` answers for the record. -/
theorem cueRefusalsOnlyReply : Obligations.CueRefusalsOnlyReply := by
  refine ⟨fun s p hh h => exec_cue_off hh h, fun s p hh hf hr h => exec_cue_error hh hf hr (parseCue_length h),
    fun s c hh hf hr hv hfull => exec_cue_full hh hf hr (parseCue_valid hv) hfull,
    fun s c n hh hf hr hv hn he => exec_cue_error hh hf hr (parseCue_emptySet hv hn he), ?_⟩
  intro s raw hh hf hr hfit
  refine ⟨fun h0 => exec_cue_error hh hf hr (parseCue_noTag hfit h0),
    fun h0 => exec_cue_error hh hf hr (parseCue_tagNone hfit h0), ?_⟩
  intro tag h0 hle
  refine ⟨fun h1 => exec_cue_error hh hf hr (parseCue_noKind hfit h0 hle h1),
    fun kind h1 hk => exec_cue_error hh hf hr (parseCue_kindAbove hfit h0 hle h1 hk), ?_⟩
  intro k i h1 h2 hi hbefore
  have refused : ∀ r, fieldFault s.synth.sets k raw i = some r →
      exec (.cue (recordPayload raw)) s = .next (replied r.1 r.2 s) := fun r hfault =>
    exec_cue_error hh hf hr (parseCue_field hfit h0 hle h1 hi hbefore hfault)
  exact ⟨fun hc hn => refused _ (fieldFault_missing h2 hi hc hn),
    fun hl hn => refused _ (fieldFault_forbidden h2 hi hl hn),
    fun v hv hm => refused _ (fieldFault_value h2 hi hfit hv hm)⟩

/-! ### Acceptance -/

/-- A CUE accepted: the reply with the cue's position, the cue at the tail, the accepted counter one higher. -/
def acceptedInto (c : Cue) (s : State) : State :=
  { replied .ok [BitVec.ofNat 8 (s.cue.queue.length + 1)] s with
    cue := { s.cue with queue := s.cue.queue ++ [c], accepted := s.cue.accepted + 1 } }

@[simp] theorem acceptedInto_state : (acceptedInto c s).state = s.state := risen_state

@[simp] theorem acceptedInto_group : (acceptedInto c s).group = s.group := risen_group

theorem isFree_acceptedInto : isFree (acceptedInto c s) = isFree s := isFree_congr rfl

theorem answer_appendCue : answer .ok (u8 (s.cue.queue.length + 1)) (appendCue c (openFrame s)) = acceptedInto c s := by
  have hreply : answer .ok (u8 (s.cue.queue.length + 1)) (appendCue c (openFrame s)) =
      appendCue c (replied .ok (u8 (s.cue.queue.length + 1)) s) := by rw [← answer_openFrame]; rfl
  rw [hreply]
  simp [appendCue, acceptedInto, replied, repliedWith, u8]

/-- R7: a valid record that is not taken behind the sample joins the tail. -/
theorem exec_cue_accepted (hh : s.hears = true) (hs : cueAllowed s.state = true) (hp : parseCue s.synth.sets p = .ok c)
    (hroom : s.cue.queue.length < 32) (hlate : ¬ comesLate c s) :
    exec (.cue p) s = .next (afterAppend s.cue.queue.isEmpty c (acceptedInto c s)) := by
  rw [exec_cue_at_once hh (mt (takenBehind_comesLate hh hp hroom).mp hlate),
    takeCue_room (by rwa [openFrame_state]) (by rwa [openFrame_synth]) (by rwa [openFrame_cue]), openFrame_cue,
    answer_appendCue]

theorem exec_cue_idle (hh : s.hears = true) (hs : s.state = .config ∨ s.state = .enroll)
    (hp : parseCue s.synth.sets p = .ok c) (hroom : s.cue.queue.length < 32) :
    exec (.cue p) s = .next (acceptedInto c s) := by
  have hrun : s.state ≠ .run := by rcases hs with hs | hs <;> simp [hs]
  have harmed : s.state ≠ .armed := by rcases hs with hs | hs <;> simp [hs]
  have hallowed : cueAllowed s.state = true := by rcases hs with hs | hs <;> rw [hs] <;> rfl
  rw [exec_cue_accepted hh hallowed hp hroom fun ⟨hr, _⟩ => hrun hr,
    afterAppend_waits (by simp [hrun]), judgeGate_off _ (by simpa using harmed) (by simpa using hrun)]

/-- R53: at the gate's states the judgement of readiness follows the append. -/
theorem exec_cue_judged (hh : s.hears = true) (hs : s.state = .armed ∨ s.state = .run)
    (hp : parseCue s.synth.sets p = .ok c) (hroom : s.cue.queue.length < 32) (hlate : ¬ comesLate c s)
    (hstart : ¬(s.state = .run ∧ isFree s = true ∧ s.cue.queue = [] ∧ c.gate = .localCue)) :
    exec (.cue p) s = .next (judgeGate (acceptedInto c s)) := by
  have hallowed : cueAllowed s.state = true := by rcases hs with hs | hs <;> rw [hs] <;> rfl
  rw [exec_cue_accepted hh hallowed hp hroom hlate,
    afterAppend_waits (by simpa [isFree_acceptedInto] using hstart)]

/-- Log 36: a CUE that comes late finds what the sample has left due carried out. -/
theorem exec_cue_late (hh : s.hears = true) (hp : parseCue s.synth.sets p = .ok c) (hroom : s.cue.queue.length < 32)
    (hlate : comesLate c s) (hsettled : ¬ comesLate c (settleSample s)) :
    exec (.cue p) s = exec (.cue p) (settleSample s) := by
  have hbehind : ¬ takenBehind p (settleSample s) = true := by
    rw [takenBehind_iff]
    rintro ⟨-, hrun, -, hdue, -⟩
    obtain ⟨-, hkind, hgate, -⟩ := hlate
    exact hsettled ⟨hrun, hkind, hgate, hdue⟩
  rw [exec_cue_behind ((takenBehind_comesLate hh hp hroom).mpr hlate)]
  change _ = serve (takeCue p) (beforeCue p (settleSample s))
  rw [beforeCue, if_neg hbehind]

/-- Settles O12: the append, then the judgement of readiness where there is a gate; a CUE that comes late is taken on
what the sample has left due. -/
theorem cueJoinsTail : Obligations.CueJoinsTail := by
  refine ⟨fun s c hh hs hv hroom => exec_cue_idle hh hs (parseCue_valid hv) hroom,
    fun s c hh hs hv hroom hlate hstart => ?_,
    fun s c hh hv hroom hlate hsettled => exec_cue_late hh (parseCue_valid hv) hroom hlate hsettled⟩
  refine ⟨_, exec_cue_judged hh hs (parseCue_valid hv) hroom hlate hstart, judgeGate_eq _, ?_⟩
  have hjudged := judgeGate_gateJudged (s := acceptedInto c s)
  rwa [acceptedInto_group] at hjudged

/-! ### FLUSH -/

theorem exec_flush (hh : s.hears = true) : exec (.flush []) s = .next (takeFlush (openFrame s)) := serve_heard s _ hh

/-- R12: a FLUSH of an empty queue only replies. -/
theorem takeFlush_empty (hq : s.cue.queue = []) : takeFlush s = answer .ok [0#8] s := by
  simp [takeFlush, hq, u8]

theorem flushQueue_nonempty (hq : s.cue.queue ≠ []) : flushQueue s = raise .queueLow { s with
    cue := { s.cue with
      queue := [], discarded := s.cue.discarded + BitVec.ofNat 32 s.cue.queue.length } } := by
  have hsome : (!s.cue.queue.isEmpty) = true := by simpa using hq
  rw [flushQueue, hsome]; rfl

theorem takeFlush_nonempty (hq : s.cue.queue ≠ []) : takeFlush s =
    answer .ok (u8 s.cue.queue.length) (judgeGate
      (raiseIf (decide (s.state = .run) && isFree s) .queueDry (flushQueue s))) := by
  have hfree : isFree (flushQueue s) = isFree s := isFree_congr (by rw [flushQueue_cue])
  rw [takeFlush, if_neg (by simpa using hq), afterFlush, flushQueue_state, hfree]

theorem raiseIf_eq (b : Bool) (a : AlertCause) : raiseIf b a s = { s with alert := (raiseIf b a s).alert } := by
  cases b <;> rfl

theorem not_atGate_of_empty (hq : s.cue.queue = []) : ¬ standsAtGate s := by
  rintro ⟨⟨c, cs, hcons, -⟩, -⟩
  rw [hq] at hcons
  cases hcons

/-- A judgement that finds no cue at the head holds TK_GATE low outside a gate pulse. -/
theorem gateJudged_holds {g : Group} (h : gateJudged g t) (hrun : t.state = .run) (hq : t.cue.queue = [])
    (hp : g.pulse = false) : t.group.drive = .heldLow ∧ t.group.timerOn = false := by
  obtain ⟨-, h⟩ := h
  obtain ⟨-, -, -, -, -, hheld⟩ := h (.inr hrun)
  obtain ⟨hdrive, -, htimer⟩ := hheld hp fun ⟨hgate, _⟩ => not_atGate_of_empty hq hgate
  exact ⟨hdrive, htimer⟩

/-- R12, R53: a FLUSH that removes a cue, beside the Alert Unit. -/
theorem takeFlush_judged (hq : s.cue.queue ≠ []) :
    takeFlush s = { answer .ok (u8 s.cue.queue.length) s with
      cue := { s.cue with queue := [], discarded := s.cue.discarded + BitVec.ofNat 32 s.cue.queue.length }
      group := (takeFlush s).group, alert := (takeFlush s).alert } ∧
    gateJudged s.group (takeFlush s) := by
  have hjudged := judgeGate_gateJudged (s := raiseIf (decide (s.state = .run) && isFree s) .queueDry (flushQueue s))
  rw [raiseIf_group, flushQueue_group] at hjudged
  rw [takeFlush_nonempty hq]
  refine ⟨?_, hjudged⟩
  rw [judgeGate_eq, raiseIf_eq, flushQueue_nonempty hq]
  rfl

/-- R12, R29: the pending flags of a FLUSH that removes a cue. -/
theorem takeFlush_flags (hq : s.cue.queue ≠ []) :
    onlyFlags s.alert (takeFlush s).alert ∧ isFlagged 8 (takeFlush s).alert ∧
      (s.state = .run → isFree s = true → isFlagged 9 (takeFlush s).alert) := by
  have hlow : onlyFlags s.alert (flushQueue s).alert ∧ isFlagged 8 (flushQueue s).alert := by
    rw [flushQueue_nonempty hq]
    exact ⟨onlyFlags_raise .queueLow, isFlagged_raise .queueLow⟩
  obtain ⟨hflags, hset⟩ := hlow
  have halert : (takeFlush s).alert =
      (raiseIf (decide (s.state = .run) && isFree s) .queueDry (flushQueue s)).alert := by
    rw [takeFlush_nonempty hq]
    exact judgeGate_alert _
  have hdry := onlyFlags_raiseIf (s := flushQueue s) (decide (s.state = .run) && isFree s) .queueDry
  rw [halert]
  refine ⟨onlyFlags_trans hflags hdry, isFlagged_mono hset hdry, fun hr hf => ?_⟩
  rw [hr, hf]
  exact isFlagged_raise .queueDry

theorem openFrame_alert : (openFrame s).alert = (risen s).alert := by
  rw [← cutReply_eq_risen]; rfl

/-- R12: a heard FLUSH of an empty queue: the state with its reply, written as the statement writes it. -/
theorem replied_empty_queue (hq : s.cue.queue = []) : replied .ok [0#8] s = { replied .ok [0#8] s with
    cue := { s.cue with queue := [], discarded := s.cue.discarded + BitVec.ofNat 32 0 }
    group := (replied .ok [0#8] s).group, alert := (replied .ok [0#8] s).alert } := by
  have hcue : { s.cue with queue := [], discarded := s.cue.discarded + BitVec.ofNat 32 0 } = (replied .ok [0#8] s).cue := by
    rw [← hq, BitVec.add_zero]
    exact risen_cue.symm
  rw [hcue]

/-- Settles O15: an empty queue changes the reply alone; behind any other the readiness of a station without a head is
judged. -/
theorem flushDiscardsQueue : Obligations.FlushDiscardsQueue := by
  intro s hh
  refine ⟨_, exec_flush hh, ?_⟩
  by_cases hq : s.cue.queue = []
  · have hempty : takeFlush (openFrame s) = replied .ok [0#8] s := by
      rw [takeFlush_empty (by rwa [openFrame_cue]), answer_openFrame]
    rw [hempty, hq]
    exact ⟨replied_empty_queue hq, onlyFlags_risen, fun _ => ⟨risen_group, rfl⟩, fun hne => absurd rfl hne⟩
  · have hne : (openFrame s).cue.queue ≠ [] := by rwa [openFrame_cue]
    obtain ⟨heq, hjudged⟩ := takeFlush_judged hne
    obtain ⟨hflags, hlow, hdry⟩ := takeFlush_flags hne
    rw [answer_openFrame, openFrame_cue] at heq
    rw [openFrame_group] at hjudged
    rw [openFrame_alert] at hflags
    rw [openFrame_state, isFree_congr (congrArg _ (openFrame_cue s))] at hdry
    have hqueue : (takeFlush (openFrame s)).cue.queue = [] := by rw [heq]
    have hstate : (takeFlush (openFrame s)).state = s.state := by rw [heq]; exact risen_state
    exact ⟨heq, onlyFlags_trans onlyFlags_risen hflags, fun he => absurd he hq, fun _ => ⟨hjudged, hlow, fun hr hf =>
      ⟨hdry hr hf, gateJudged_holds hjudged (hstate.trans hr) hqueue⟩⟩⟩

end Sys2Proof.Proofs
end
